-- ==== Sys2Proof/Word.lean ====
section
/-! DEFINITION. The ring word (chapter 12: a frame is a sequence of 16-bit words) and the ring address (0 to 63). -/

namespace Sys2Proof

/-- A ring word: 16 bits, bit 15 the most significant (chapter 12). -/
abbrev Word := BitVec 16

/-- A ring address, 0 to 63: address 0 is the drive master, 63 is broadcast. -/
abbrev Addr := BitVec 6

end Sys2Proof
end

