-- ==== Sys2Proof/Syntax.lean ====
section
/-! DEFINITION. The commands of the block: one constructor for each row of spec/opcode_table.json.

The DK-22 has no register window; what comes to it from outside is a frame at its ring input, the end of a
transmission at its ring output, the expiry of a timer of its time base, a free place taken in its transmit
queue, and its reset lines. Each of those is one command. -/

namespace Sys2Proof

/-- A frame received whole at the ring input, or a frame standing in one of the part's output stores: the
three header words as carried, the payload words and the frame check word (R190, R191). -/
structure RawFrame where
  h0 : Word
  h1 : Word
  h2 : Word
  payload : List Word
  check : Word
deriving DecidableEq, Repr

/-- The two managers whose command frames the part takes (R170). -/
inductive Manager where
  | driveMaster
  | serviceStation
deriving DecidableEq, Repr

/-- The commands. Rows for requests carry the source address and the request tag of a checked command frame at
the part's own address, and the arguments of R193 as carried words. Rows for frames carry the frame as received,
so that R1's length and check errors are within them. -/
inductive Instr where
  /-- FRAME_RECEIVED (R1): any frame received whole. -/
  | frameReceived (f : RawFrame)
  /-- TRANSMISSION_END (R5): the frame now leaving the output port has left. -/
  | transmissionEnd
  /-- MARK (R12): a mark frame received whole. -/
  | mark (f : RawFrame)
  /-- SHOCK_HOLD_EXPIRY (R71): the mark frame at whose acceptance a shock hold counter reaches 0. -/
  | shockHoldExpiry (f : RawFrame)
  /-- SHOCK_ENTRY_AGED_OUT (R71): the mark frame at whose acceptance a shock list entry ages out. -/
  | shockEntryAgedOut (f : RawFrame)
  /-- BREAKAWAY_EXPIRED (R66): the mark frame at whose acceptance the breakaway allowance expires. -/
  | breakawayExpired (f : RawFrame)
  /-- PENDING_ACTIVATION_SWAP (R34): the mark frame at whose acceptance a pending activation completes. -/
  | pendingActivationSwap (f : RawFrame)
  /-- SAMPLE_FRAME (R14): an armature, speed or reference frame received whole. -/
  | sampleFrame (f : RawFrame)
  /-- DEADLINE_EXPIRY (R17). -/
  | deadlineExpiry
  /-- MARK_TIMER_EXPIRY (R19). -/
  | markTimerExpiry
  /-- VIBRATION_BLOCK (R20): a vibration frame received whole. -/
  | vibrationBlock (f : RawFrame)
  /-- TAKEOVER (R130): a takeover frame received whole. -/
  | takeover (f : RawFrame)
  /-- RETURN (R133): a return frame received whole. -/
  | returnFrame (f : RawFrame)
  /-- AUX_FRAME_QUEUED (R129): the outgoing auxiliary frame is offered a queue place. -/
  | auxFrameQueued
  /-- TURN_TIMER_EXPIRY (R125). -/
  | turnTimerExpiry
  /-- OVERDUE_TIMER_EXPIRY (R128). -/
  | overdueTimerExpiry
  /-- RECALL_TIMER_EXPIRY (R132). -/
  | recallTimerExpiry
  /-- NOTICE_FRAME (R188): the Reporter is offered a queue place. -/
  | noticeFrame
  /-- FLUSH_TIMER_EXPIRY (R188). -/
  | flushTimerExpiry
  /-- RESPONSE_QUEUED (R174): a manager's reply list is offered a queue place. -/
  | responseQueued (m : Manager)
  /-- UNKNOWN_REQUEST (R171): a command frame's whole payload, of any kind and length. -/
  | unknownRequest (src : Addr) (payload : List Word)
  /-- DESCRIBE (R177). -/
  | describe (src : Addr) (tag : Word)
  /-- READ_STATUS (R178). -/
  | readStatus (src : Addr) (tag page : Word)
  /-- POLL_ATTENTION (R184). -/
  | pollAttention (src : Addr) (tag : Word)
  /-- ENABLE (R116). -/
  | enable (src : Addr) (tag : Word)
  /-- DISABLE (R116). -/
  | disable (src : Addr) (tag : Word)
  /-- START_RUN (R117). -/
  | startRun (src : Addr) (tag : Word)
  /-- START_TURNING (R118). -/
  | startTurning (src : Addr) (tag : Word)
  /-- STOP (R119). -/
  | stop (src : Addr) (tag : Word)
  /-- TRIP (R147). -/
  | trip (src : Addr) (tag detail : Word)
  /-- ACKNOWLEDGE_TRIP (R148). -/
  | acknowledgeTrip (src : Addr) (tag : Word)
  /-- SET_HOT_STOP (R124). -/
  | setHotStop (src : Addr) (tag : Word)
  /-- CLEAR_HOT_STOP (R124). -/
  | clearHotStop (src : Addr) (tag : Word)
  /-- CLEAR_ALARMS (R109). -/
  | clearAlarms (src : Addr) (tag : Word)
  /-- ANNOTATE (R154). -/
  | annotate (src : Addr) (tag code : Word)
  /-- READ_RECORD_HEADER (R160). -/
  | readRecordHeader (src : Addr) (tag slot : Word)
  /-- READ_RECORD (R163). -/
  | readRecord (src : Addr) (tag slot first count : Word)
  /-- RECORD_DATA (R164): the Recorder, SENDING, is offered a queue place. -/
  | recordData
  /-- RECORD_END (R165): the Recorder, CLOSING, is offered a queue place. -/
  | recordEnd
  /-- ABORT_READOUT (R166). -/
  | abortReadout (src : Addr) (tag : Word)
  /-- LOCK_RECORD (R161). -/
  | lockRecord (src : Addr) (tag slot : Word)
  /-- UNLOCK_RECORD (R161). -/
  | unlockRecord (src : Addr) (tag slot : Word)
  /-- ERASE_RECORDS (R162). -/
  | eraseRecords (src : Addr) (tag : Word)
  /-- READ_ROWS (R29). -/
  | readRows (src : Addr) (tag bank table first count : Word)
  /-- LOAD_ROWS (R27). -/
  | loadRows (src : Addr) (tag table first count : Word) (rows : List Word)
  /-- ACTIVATE (R33). -/
  | activate (src : Addr) (tag : Word)
  /-- DISCARD_STAGED (R30). -/
  | discardStaged (src : Addr) (tag : Word)
  /-- PIN_ROW (R41). -/
  | pinRow (src : Addr) (tag row : Word)
  /-- RELEASE_ROW (R42). -/
  | releaseRow (src : Addr) (tag : Word)
  /-- FREEZE_TABLES (R38). -/
  | freezeTables (src : Addr) (tag : Word)
  /-- RESTART (R179). -/
  | restart (src : Addr) (tag : Word)
  /-- RESTART_TAKES_EFFECT (R180): the transmission of the Restart response ends. -/
  | restartTakesEffect
  /-- POWER_ON (R181): supply applied, with the strap and backup-supply-good lines as read. -/
  | powerOn (straps : Addr) (backupGood : Bool)
  /-- HARDWARE_RESET (R196): RESET_N asserted and released, with the strap lines as read at the release. -/
  | hardwareReset (straps : Addr)
deriving DecidableEq, Repr

end Sys2Proof
end

