-- ==== Sys2Proof/Decode.lean ====
section
/-! DEFINITION. The command a word of the opcode table's bits spells: no row of the table gives any bits. -/

namespace Sys2Proof

/-- No row of spec/opcode_table.json has bits, so no word spells a command; frames come whole at the ring input. -/
def decodeTableWord (_nbits _w : Nat) : Option Instr := none

end Sys2Proof
end

