-- ==== Sys2Proof/Config.lean ====
section
/-! DEFINITION. What the manual leaves open and the machine goes on after: one opaque stream of free choices. -/

namespace Sys2Proof

/-- The free choices of the part. Wherever the manual gives no order between two events of one step, or
leaves one of two values open, the step draws `choice n`, with `n` the number of choices drawn so far
(`State.draws`). It has no body, so no claim can lean on its value. See notes/assumptions/3.md. -/
opaque Config.choice : Nat → Nat

end Sys2Proof
end

