-- ==== Sys2Proof/Machine/State.lean ====
section
/-! DEFINITION. The state of the DK-22, block by block, as plain data; its faults and refusals; its reset state. -/

namespace Sys2Proof.Machine

/-! ## Names the manual lists -/

/-- The two motors, and the pinions they turn. -/
inductive Motor where
  | a
  | b
deriving DecidableEq, Repr

/-- One value for each motor. -/
structure PerMotor (α : Type) where
  a : α
  b : α
deriving DecidableEq, Repr

/-- The value of motor `m`. -/
def PerMotor.get {α : Type} (p : PerMotor α) : Motor → α
  | .a => p.a
  | .b => p.b

/-- The pair with the value of motor `m` replaced. -/
def PerMotor.set {α : Type} (p : PerMotor α) (m : Motor) (x : α) : PerMotor α :=
  match m with
  | .a => { p with a := x }
  | .b => { p with b := x }

/-- The same value for both motors. -/
def PerMotor.both {α : Type} (x : α) : PerMotor α := ⟨x, x⟩

/-- The drive states, in the order of R192's codes. -/
inductive DriveState where
  | blocked
  | ready
  | running
  | turning
  | stopping
  | auxiliary
  | tripped
deriving DecidableEq, Repr

/-- The auxiliary grant (R129). -/
inductive Grant where
  | none
  | granted
  | recalling
deriving DecidableEq, Repr

/-- Quality of a latched value (section 1.6). -/
inductive Quality where
  | fresh
  | held
  | bad
deriving DecidableEq, Repr

/-- A manager's access level (R170): OPERATE is below COMMISSION. -/
inductive Level where
  | operate
  | commission
deriving DecidableEq, Repr

/-- The class of a cause (R139). -/
inductive CauseClass where
  | trip
  | warn
  | ignore
deriving DecidableEq, Repr

/-- The sixteen causes, in the order of their codes (section 8.1). -/
inductive Cause where
  | converterA
  | converterB
  | overcurrentA
  | overcurrentB
  | cycleLost
  | sampleLoss
  | overspeed
  | external
  | saturationA
  | saturationB
  | shockRepeat
  | breakawayFailed
  | vibPersist
  | sensorDead
  | referenceLoss
  | imbalance
deriving DecidableEq, Repr

/-- The fifteen attention kinds, in their default order (section 11.1). -/
inductive Attention where
  | trip
  | recordDone
  | recordNotKept
  | vibAlarm
  | sensorDead
  | shock
  | saturation
  | imbalance
  | vibWarning
  | torqueLimit
  | turnDue
  | turnOverdue
  | auxStuck
  | linkQuality
  | tableActivated
deriving DecidableEq, Repr

/-- The motor or channel a cause or notice names (R192). -/
inductive Who where
  | nobody
  | motor (m : Motor)
  | channel (k : Fin 4)
deriving DecidableEq, Repr

/-- The result codes, in the order of R193. -/
inductive ResultCode where
  | done
  | busy
  | refusedState
  | refusedAccess
  | frozen
  | badArgument
  | invalidTable
  | notFound
  | cancelled
deriving DecidableEq, Repr

/-- The four tables of a bank, in the order of R193's codes. -/
inductive Table where
  | speedSchedule
  | vibThresholds
  | slotMap
  | driveConstants
deriving DecidableEq, Repr

/-! ## The tables of a bank (chapter 2) -/

/-- A Speed Schedule row (R23). -/
structure SpeedRow where
  kp : Nat
  ki : Nat
  flux : Nat
  fieldRef : Nat
  lmot : Nat
  lgen : Nat
deriving DecidableEq, Repr

/-- One cell of a Vibration Thresholds row (R24). -/
structure VibCell where
  deadLo : Nat
  warnHi : Nat
  alarmHi : Nat
deriving DecidableEq, Repr

/-- The frame kinds a slot map key may name, in the order of R193's row codes. -/
inductive SlotKind where
  | armature
  | speed
  | reference
  | vibration
  | takeover
  | command
deriving DecidableEq, Repr

/-- The roles of the slot map, NONE for an unused entry (R25). -/
inductive Role where
  | none
  | arm (m : Motor)
  | speed
  | ref
  | vib (k : Fin 4)
  | aux
  | service
deriving DecidableEq, Repr

/-- A Slot Map entry (section 1.3, R25). -/
structure SlotEntry where
  source : Addr
  kind : SlotKind
  slot : Bool
  role : Role
  level : Level
  offset : Int
  multiplier : Nat
deriving DecidableEq, Repr

/-- Drive Constants group 0 (R26). -/
structure Group0 where
  vlim : Nat
  imax : Nat
  iTrip : Nat
  satLimit : Nat
  ks : Nat
  shockTripCount : Nat
  trimMax : Nat
  contactBias : Nat
  imbalanceLimit : Nat
  imbalanceCycles : Nat
  shockStep : Nat
  shockClamp : Nat
  shockHold : Nat
  shockWindow : Nat
  breakawayLimit : Nat
  breakawayCycles : Nat
  overspeed : Nat
deriving DecidableEq, Repr

/-- Drive Constants group 1 (R26). -/
structure Group1 where
  rowWidth : Nat
  standstillSpeed : Nat
  movingSpeed : Nat
  stopConfirm : Nat
  deadline : Nat
  markTimeout : Nat
  missLimit : Nat
  refLossLimit : Nat
  turnAngle : Nat
  turnInterval : Nat
  turnOverdue : Nat
  recallTimeout : Nat
deriving DecidableEq, Repr

/-- Drive Constants group 2 (R26). -/
structure Group2 where
  vibWindow : Nat
  confirmWindows : Nat
  releaseWindows : Nat
  persistWindows : Nat
  hysteresis : Nat
  derateLevel : Nat
  deadWindows : Nat
  minDeadRow : Nat
  pinion : Vector Motor 4
  discardOnShock : Vector Bool 4
  vibLatch : Bool
deriving DecidableEq, Repr

/-- Drive Constants group 3 (R26). The lock-on-cause set has bit c-1 for code c; classes are those of codes 9
to 16; priorities are those of the attention kinds in their default order. -/
structure Group3 where
  preDepth : Nat
  postDepth : Nat
  lockSet : BitVec 16
  classes : Vector CauseClass 8
  priorities : Vector Nat 15
  noticeTrigger : Nat
  noticeFlush : Nat
  segmentSize : Nat
deriving DecidableEq, Repr

/-- The Drive Constants record, in its four groups. -/
structure DriveConstants where
  g0 : Group0
  g1 : Group1
  g2 : Group2
  g3 : Group3
deriving DecidableEq, Repr

/-- A bank that is not EMPTY: its four tables (R22). -/
structure Bank where
  speed : Vector SpeedRow 32
  vib : Vector (Vector VibCell 4) 32
  slots : Vector SlotEntry 32
  dc : DriveConstants
deriving DecidableEq, Repr

/-! ## Ring Port (chapter 1) -/

/-- The output port: idle, or the frame it is sending and the store that frame came from. A frame of the general
transmit queue keeps its place, at the queue's head, until its transmission ends (R7). -/
inductive Port where
  | idle
  | forwarding (f : RawFrame)
  | priority (f : RawFrame)
  | general (f : RawFrame)
deriving DecidableEq, Repr

/-- The producers that offer frames to the general transmit queue (R7, R174). -/
inductive Producer where
  | reply (m : Manager)
  | notice
  | record
  | aux
deriving DecidableEq, Repr

/-- A producer that was ready as a place fell free; `owed` until it has taken a place since (R7, notes/assumptions/8.md). -/
structure Waiter where
  producer : Producer
  owed : Bool
deriving DecidableEq, Repr

structure RingPort where
  strap : Addr
  buffer : List RawFrame
  pair : List RawFrame
  queue : List RawFrame
  port : Port
  waiters : List (List Waiter)
  checkErrors : Nat
  lengthErrors : Nat
  unexpected : Nat
  forwardOverflow : Nat
  priorityOverrun : Nat
deriving DecidableEq, Repr

/-! ## Intake (chapter 1) -/

/-- The deadline timer of the open cycle; a running one with its microseconds left. -/
inductive DeadlineTimer where
  | notStarted
  | running (us : Nat)
  | expired
deriving DecidableEq, Repr

/-- The mark timer; a running one with its microseconds left. -/
inductive MarkTimer where
  | stopped
  | running (us : Nat)
  | expired
deriving DecidableEq, Repr

/-- What every cycle role keeps: quality, the taken flag, the consecutive-miss count, and whether the loss
condition of R18 stands on it. -/
structure RoleStatus where
  quality : Quality
  taken : Bool
  miss : Nat
  lossStands : Bool
deriving DecidableEq, Repr

structure ArmLatch where
  current : Int
  voltage : Int
  ready : Bool
  fault : Nat
  status : RoleStatus
deriving DecidableEq, Repr

structure SpeedLatch where
  speed : Int
  angle : Nat
  encoderFault : Bool
  status : RoleStatus
deriving DecidableEq, Repr

structure RefLatch where
  reference : Int
  status : RoleStatus
deriving DecidableEq, Repr

structure Intake where
  cycle : Option Word
  deadline : DeadlineTimer
  markTimer : MarkTimer
  markLoss : Bool
  arm : PerMotor ArmLatch
  speed : SpeedLatch
  ref : RefLatch
  refMade : Bool
  regMade : PerMotor Bool
  slips : Nat
  stale : Nat
  late : Nat
  duplicate : Nat
deriving DecidableEq, Repr

/-! ## Schedule Store (chapter 2) -/

/-- The dirty set: a flag for each table (R22). -/
structure DirtySet where
  speedSchedule : Bool
  vibThresholds : Bool
  slotMap : Bool
  driveConstants : Bool
deriving DecidableEq, Repr

structure Schedule where
  active : Option Bank
  staged : Option Bank
  dirty : DirtySet
  activation : Option Manager
  generation : Nat
  computedRow : Fin 32
  pin : Option (Fin 32)
  frozen : Bool
deriving DecidableEq, Repr

/-! ## Torque Splitter (chapter 3) -/

structure Splitter where
  acc : Int
  trim : Int
  prevLimited : PerMotor Bool
  imbalanceCount : Nat
  lastSplit : PerMotor Int
deriving DecidableEq, Repr

/-! ## Torque Limiter (chapter 4) -/

/-- The previous measured torque of a motor (section 4.1). -/
structure MeasuredTorque where
  value : Int
  quality : Quality
  age : Nat
deriving DecidableEq, Repr

/-- An entry of the shock list (R70). -/
structure ShockEntry where
  motor : Motor
  tag : Word
  age : Nat
deriving DecidableEq, Repr

/-- How the last breakaway allowance ended (section 4.1). -/
inductive BreakawayOutcome where
  | none
  | achieved
  | abandoned
  | expired
deriving DecidableEq, Repr

/-- What the limiter keeps for one motor. -/
structure MotorLimits where
  lmotEff : Nat
  lgenEff : Nat
  applied : Int
  iref : Int
  limited : Bool
  clampApplied : Bool
  hold : Nat
  reloaded : Bool
  prevTorque : Option MeasuredTorque
  shockCount : Nat
deriving DecidableEq, Repr

structure Limiter where
  motor : PerMotor MotorLimits
  breakaway : Option Nat
  outcome : BreakawayOutcome
  breakawayAtRef : Bool
  shocks : List ShockEntry
deriving DecidableEq, Repr

/-! ## Armature Regulators (chapter 5) -/

structure Regulator where
  acc : Int
  output : Int
  saturated : Bool
  satCount : Nat
  satRaised : Bool
  overcurrent : Bool
deriving DecidableEq, Repr

/-! ## Vibration Watch (chapter 6) -/

/-- The result of the last window close (R94). -/
inductive RawResult where
  | none
  | void
  | notCompared
  | normal
  | aboveWarn
  | aboveAlarm
  | belowDead
deriving DecidableEq, Repr

/-- The confirmed state of a channel (R94). -/
inductive Confirmed where
  | normal
  | warning
  | alarm
  | dead
deriving DecidableEq, Repr

/-- The open window of a channel. -/
structure Window where
  sum : Nat
  n : Nat
  received : Nat
  missed : Nat
  peak : Nat
  sector : Nat
deriving DecidableEq, Repr

/-- The confirmation of a channel: its state and counters. -/
structure Confirmation where
  state : Confirmed
  alarm : Nat
  warn : Nat
  release : Nat
  dead : Nat
  persist : Nat
  persistRaised : Bool
deriving DecidableEq, Repr

structure Channel where
  lastSeq : Option Nat
  tracker : Option Int
  window : Window
  lastMs : Nat
  lastPeak : Nat
  lastSector : Nat
  raw : RawResult
  conf : Confirmation
  oldBlocks : Nat
  missedBlocks : Nat
  voidWindows : Nat
  discarded : Nat
deriving DecidableEq, Repr

structure Vibration where
  channels : Vector Channel 4
  ceiling : PerMotor Nat
deriving DecidableEq, Repr

/-! ## Drive Sequencer (chapter 7) -/

/-- The turn timer; COUNTING and PAUSED with the microseconds left (R125). -/
inductive TurnTimer where
  | idle
  | counting (us : Nat)
  | paused (us : Nat)
  | expired
deriving DecidableEq, Repr

/-- The overdue timer (R128). -/
inductive OverdueTimer where
  | stopped
  | counting (us : Nat)
  | expired
deriving DecidableEq, Repr

/-- The recall timer (R132). -/
inductive RecallTimer where
  | stopped
  | counting (us : Nat)
deriving DecidableEq, Repr

structure Sequencer where
  drive : DriveState
  grant : Grant
  pendingTakeover : Bool
  outgoing : Option RawFrame
  recallTimer : RecallTimer
  recallCount : Nat
  hot : Bool
  turnTimer : TurnTimer
  movement : Int
  lastAngle : Option Nat
  turnDue : Bool
  overdue : OverdueTimer
  advance : Int
  stopCount : Nat
  turnComplete : Bool
deriving DecidableEq, Repr

/-! ## Trip Unit (chapter 8) -/

/-- A cause as raised: its code, the motor or channel it names, its detail value. -/
structure CauseRecord where
  cause : Cause
  who : Who
  detail : Int
deriving DecidableEq, Repr

/-- The standing flags of the level causes, codes 1 to 6 and 15 (R138). -/
structure StandingFlags where
  converter : PerMotor Bool
  overcurrent : PerMotor Bool
  cycleLost : Bool
  sampleLoss : Bool
  referenceLoss : Bool
deriving DecidableEq, Repr

structure TripUnit where
  declared : Bool
  first : Option CauseRecord
  cycleTag : Word
  age : Nat
  later : List (Cause × Nat)
  dropped : Nat
  converterFault : PerMotor (Option Nat)
  standing : StandingFlags
deriving DecidableEq, Repr

/-! ## Recorder (chapter 9) -/

/-- The raw summary value of a channel (R114). -/
inductive RawSummary where
  | quiet
  | warn
  | alarm
  | dead
deriving DecidableEq, Repr

/-- A snapshot of one closed cycle (R152). -/
structure Snapshot where
  tag : Word
  tref : Int
  applied : PerMotor Int
  iref : PerMotor Int
  imeas : PerMotor Int
  u : PerMotor Int
  speed : Int
  drive : DriveState
  row : Fin 32
  limited : PerMotor Bool
  shockClamp : PerMotor Bool
  breakaway : Bool
  saturated : PerMotor Bool
  qArm : PerMotor Quality
  qSpeed : Quality
  qRef : Quality
  confirmed : Vector Confirmed 4
  raw : Vector RawSummary 4
  marker : Nat
deriving DecidableEq, Repr

/-- The record state of a slot (R155). -/
inductive RecordState where
  | empty
  | capturing
  | complete
  | truncated
deriving DecidableEq, Repr

/-- A record header (R155), all zero in an EMPTY slot. The later causes carry their codes. -/
structure Header where
  seq : Nat
  causeCode : Nat
  who : Who
  detail : Int
  tripTag : Word
  drive : DriveState
  row : Nat
  generation : Nat
  lmotEff : PerMotor Nat
  lgenEff : PerMotor Nat
  lastMs : Vector Nat 4
  confirmed : Vector Confirmed 4
  later : List (Nat × Nat)
  dropped : Nat
  pre : Nat
  post : Nat
deriving DecidableEq, Repr

structure RecordSlot where
  state : RecordState
  locked : Bool
  pinned : Bool
  header : Header
  body : List Snapshot
deriving DecidableEq, Repr

/-- What a readout in SENDING or CLOSING holds (section 9.6). -/
structure ReadoutData where
  manager : Manager
  addr : Addr
  slot : Fin 8
  next : Nat
  remaining : Nat
  sent : Nat
  aborted : Bool
  segSize : Nat
deriving DecidableEq, Repr

/-- The readout state (section 9.6). -/
inductive Readout where
  | idle
  | sending (r : ReadoutData)
  | closing (r : ReadoutData)
deriving DecidableEq, Repr

/-- The history ring is held oldest first; its fill count is its length. -/
structure Recorder where
  history : List Snapshot
  marker : Option Nat
  slots : Vector RecordSlot 8
  seqCounter : Nat
  currentSlot : Option (Fin 8)
  readout : Readout
deriving DecidableEq, Repr

/-! ## Request Handler (chapter 10) -/

/-- The states of a request holder (R172). -/
inductive HolderState where
  | free
  | answering
  | waitingSwap
  | reading
  | restarting
deriving DecidableEq, Repr

/-- A request holder: its state, and the address and request tag of the request it holds (R172). -/
structure Holder where
  state : HolderState
  addr : Addr
  tag : Word
deriving DecidableEq, Repr

/-- What a response in a reply list answers. -/
inductive ReplyPurpose where
  | refusal
  | answer
  | abortAnswer
deriving DecidableEq, Repr

/-- A response formed and waiting in a reply list (R174), with the tag of the cycle open as it was formed. -/
structure Reply where
  dest : Addr
  kind : Word
  tag : Word
  result : ResultCode
  results : List Word
  formedTag : Word
  purpose : ReplyPurpose
deriving DecidableEq, Repr

/-- What the Request Handler keeps for one manager. -/
structure ManagerState where
  holder : Holder
  abortAnswering : Bool
  replies : List Reply
deriving DecidableEq, Repr

structure Requests where
  master : ManagerState
  service : ManagerState
  overrun : Nat
deriving DecidableEq, Repr

/-! ## Reporter (chapter 11) -/

/-- A notice queue entry (R187). -/
structure Notice where
  kind : Attention
  causeCode : Nat
  tag : Word
  who : Who
  detail : Int
deriving DecidableEq, Repr

/-- The flush timer; RUNNING with its microseconds left (R188). -/
inductive FlushTimer where
  | stopped
  | running (us : Nat)
  | flushDue
deriving DecidableEq, Repr

/-- The attention set holds one pending flag for each kind, in default order (R182). -/
structure Reporter where
  attention : Vector Bool 15
  notices : List Notice
  overflow : Bool
  flush : FlushTimer
deriving DecidableEq, Repr

/-! ## The whole part -/

/-- The state of the DK-22. `pending` is the queue of commands waiting, first in, first out; `draws` counts
the free choices drawn (the model's own fields, see notes/assumptions/1.md and 3.md). -/
structure State where
  pending : List Instr
  draws : Nat
  rp : RingPort
  intake : Intake
  sched : Schedule
  split : Splitter
  lim : Limiter
  reg : PerMotor Regulator
  vib : Vibration
  seq : Sequencer
  tru : TripUnit
  recorder : Recorder
  rqh : Requests
  rpt : Reporter
deriving DecidableEq, Repr

/-- The machine has no fault: the manual gives every command an effect in every state, so no step faults. -/
inductive Fault where
deriving DecidableEq, Repr

/-- The refusals of a step. -/
inductive Refusal where
  /-- Raised only by an arm of `exec` whose row has no meaning yet, by name; safe. -/
  | notModelled (mnemonic : String)
deriving DecidableEq, Repr

/-! ## Reset values -/

/-- R8: the Ring Port after power-on and hardware reset, with the strap value read (R181). -/
def RingPort.initial (strap : Addr) : RingPort where
  strap := strap
  buffer := []
  pair := []
  queue := []
  port := .idle
  waiters := []
  checkErrors := 0
  lengthErrors := 0
  unexpected := 0
  forwardOverflow := 0
  priorityOverrun := 0

/-- R21: a role never taken: HELD, not taken, miss count 0. -/
def RoleStatus.initial : RoleStatus := ⟨.held, false, 0, false⟩

def ArmLatch.initial : ArmLatch := ⟨0, 0, false, 0, RoleStatus.initial⟩

/-- R21. -/
def Intake.initial : Intake where
  cycle := none
  deadline := .notStarted
  markTimer := .stopped
  markLoss := false
  arm := PerMotor.both ArmLatch.initial
  speed := ⟨0, 0, false, RoleStatus.initial⟩
  ref := ⟨0, RoleStatus.initial⟩
  refMade := false
  regMade := PerMotor.both false
  slips := 0
  stale := 0
  late := 0
  duplicate := 0

def DirtySet.empty : DirtySet := ⟨false, false, false, false⟩

/-- R22, R43. -/
def Schedule.initial : Schedule where
  active := none
  staged := none
  dirty := DirtySet.empty
  activation := none
  generation := 0
  computedRow := 0
  pin := none
  frozen := false

/-- R55. -/
def Splitter.initial : Splitter := ⟨0, 0, PerMotor.both false, 0, PerMotor.both 0⟩

def MotorLimits.initial : MotorLimits := ⟨0, 0, 0, 0, false, false, 0, false, none, 0⟩

/-- R77. -/
def Limiter.initial : Limiter := ⟨PerMotor.both MotorLimits.initial, none, .none, false, []⟩

/-- R93. -/
def Regulator.initial : Regulator := ⟨0, 0, false, 0, false, false⟩

def Window.empty : Window := ⟨0, 0, 0, 0, 0, 0⟩

def Confirmation.initial : Confirmation := ⟨.normal, 0, 0, 0, 0, 0, false⟩

def Channel.initial : Channel where
  lastSeq := none
  tracker := none
  window := Window.empty
  lastMs := 0
  lastPeak := 0
  lastSector := 0
  raw := .none
  conf := Confirmation.initial
  oldBlocks := 0
  missedBlocks := 0
  voidWindows := 0
  discarded := 0

/-- R113: both ceilings are 12288. -/
def Vibration.initial : Vibration := ⟨Vector.replicate 4 Channel.initial, PerMotor.both 12288⟩

/-- R137. -/
def Sequencer.initial : Sequencer where
  drive := .blocked
  grant := .none
  pendingTakeover := false
  outgoing := none
  recallTimer := .stopped
  recallCount := 0
  hot := false
  turnTimer := .idle
  movement := 0
  lastAngle := none
  turnDue := false
  overdue := .stopped
  advance := 0
  stopCount := 0
  turnComplete := false

def StandingFlags.clear : StandingFlags :=
  ⟨PerMotor.both false, PerMotor.both false, false, false, false⟩

/-- R138. -/
def TripUnit.initial : TripUnit where
  declared := false
  first := none
  cycleTag := 0
  age := 0
  later := []
  dropped := 0
  converterFault := PerMotor.both none
  standing := StandingFlags.clear

/-- The header of an EMPTY slot (R155: emptying a slot zeroes its header). -/
def Header.zero : Header where
  seq := 0
  causeCode := 0
  who := .nobody
  detail := 0
  tripTag := 0
  drive := .blocked
  row := 0
  generation := 0
  lmotEff := PerMotor.both 0
  lgenEff := PerMotor.both 0
  lastMs := Vector.replicate 4 0
  confirmed := Vector.replicate 4 .normal
  later := []
  dropped := 0
  pre := 0
  post := 0

/-- An EMPTY slot (R155). -/
def RecordSlot.emptied : RecordSlot := ⟨.empty, false, false, Header.zero, []⟩

/-- R169, power-on with BKUP_GOOD low. -/
def Recorder.initial : Recorder where
  history := []
  marker := none
  slots := Vector.replicate 8 RecordSlot.emptied
  seqCounter := 0
  currentSlot := none
  readout := .idle

def ManagerState.initial : ManagerState := ⟨⟨.free, 0, 0⟩, false, []⟩

/-- R181: both holders and abort holders FREE, both reply lists empty, overrun count 0. -/
def Requests.initial : Requests := ⟨ManagerState.initial, ManagerState.initial, 0⟩

/-- R189. -/
def Reporter.initial : Reporter := ⟨Vector.replicate 15 false, [], false, .stopped⟩

/-- The part after power-on with BKUP_GOOD low, with the strap value given (R181). -/
def State.initial (strap : Addr) : State where
  pending := []
  draws := 0
  rp := RingPort.initial strap
  intake := Intake.initial
  sched := Schedule.initial
  split := Splitter.initial
  lim := Limiter.initial
  reg := PerMotor.both Regulator.initial
  vib := Vibration.initial
  seq := Sequencer.initial
  tru := TripUnit.initial
  recorder := Recorder.initial
  rqh := Requests.initial
  rpt := Reporter.initial

/-- DESIGN CHOICE (notes/assumptions/2.md): the straps of the reset state read 5, the strap value of the manual's
start-up example (section 10.8), and BKUP_GOOD reads low. POWER_ON and HARDWARE_RESET set any strap value. -/
def State.reset : State := State.initial 5

end Sys2Proof.Machine
end

