-- ==== Sys2Proof/Machine/Frames.lean ====
section
/-! DEFINITION. Frames as words: fields, frame check, building (section 12.1), and the codes of section 12.2. -/

namespace Sys2Proof

/-- Bits `lo` to `lo + n - 1` of a word, as a number. -/
def bitsOf (w : Word) (lo n : Nat) : Nat := (w.toNat / 2 ^ lo) % 2 ^ n

/-- Destination address: word 0, bits 15..10 (R190). -/
def RawFrame.dest (f : RawFrame) : Addr := f.h0.extractLsb' 10 6

/-- Source address: word 0, bits 9..4 (R190). -/
def RawFrame.source (f : RawFrame) : Addr := f.h0.extractLsb' 4 6

/-- Frame kind code: word 1, bits 15..11 (R190). -/
def RawFrame.kindCode (f : RawFrame) : Nat := (f.h1.extractLsb' 11 5).toNat

/-- Payload length field: word 1, bits 6..0 (R190). -/
def RawFrame.lengthField (f : RawFrame) : Nat := (f.h1.extractLsb' 0 7).toNat

/-- Cycle tag: word 2 (R190). -/
def RawFrame.tag (f : RawFrame) : Word := f.h2

/-- The kind codes of R190. -/
def kindMark : Nat := 0
def kindReference : Nat := 1
def kindArmature : Nat := 2
def kindSpeed : Nat := 3
def kindVibration : Nat := 4
def kindTakeover : Nat := 5
def kindReturn : Nat := 6
def kindHandover : Nat := 7
def kindDecline : Nat := 8
def kindRecall : Nat := 9
def kindDrive : Nat := 10
def kindEcho : Nat := 11
def kindCommand : Nat := 12
def kindResponse : Nat := 13
def kindNotice : Nat := 14
def kindRecordData : Nat := 15
def kindRecordEnd : Nat := 16

/-- One bit through the frame check register: generator x^16 + x^12 + x^5 + 1 (R191). -/
def crcBit (r : Word) (b : Bool) : Word :=
  if r.msb ^^ b then (r <<< 1) ^^^ 0x1021#16 else r <<< 1

/-- The `n` low bits of a word through the register, most significant first. -/
def crcBits (w : Word) : Nat → Word → Word
  | 0, r => r
  | n + 1, r => crcBits w n (crcBit r (w.getLsbD n))

/-- One word through the register, most significant bit first (R191). -/
def crcWord (r w : Word) : Word := crcBits w 16 r

/-- The frame check of a list of words: the register starts at all ones, with no final inversion (R191). -/
def crc (ws : List Word) : Word := ws.foldl crcWord 0xFFFF#16

/-- Header and payload words, in the order they are sent. -/
def RawFrame.body (f : RawFrame) : List Word := f.h0 :: f.h1 :: f.h2 :: f.payload

/-- R1: a payload length field above 64, or not the number of words received. -/
def RawFrame.lengthError (f : RawFrame) : Bool := 64 < f.lengthField || f.payload.length != f.lengthField

/-- R1, R191: the computed check differs from the carried check. -/
def RawFrame.checkError (f : RawFrame) : Bool := crc f.body != f.check

/-- A frame with the given fields, zero bits 0, and the frame check computed over it (R5, R190, R191). -/
def makeFrame (dest src : Addr) (kind : Nat) (tag : Word) (payload : List Word) : RawFrame :=
  let h0 : Word := dest ++ src ++ (0#4 : BitVec 4)
  let h1 : Word := BitVec.ofNat 5 kind ++ (0#4 : BitVec 4) ++ BitVec.ofNat 7 payload.length
  { h0 := h0, h1 := h1, h2 := tag, payload := payload, check := crc (h0 :: h1 :: tag :: payload) }

namespace Machine

/-! ## Words from values (chapter 12: signed values are two's complement, 32-bit values high word first) -/

def wordOfInt (i : Int) : Word := BitVec.ofInt 16 i
def wordOfNat (n : Nat) : Word := BitVec.ofNat 16 n
def wordOfBool (b : Bool) : Word := if b then 1 else 0

/-- A 32-bit value in two words, high word first. -/
def wordsOfNat32 (n : Nat) : List Word := [BitVec.ofNat 16 (n / 65536), BitVec.ofNat 16 n]

/-- A signed 32-bit value in two words, high word first. -/
def wordsOfInt32 (i : Int) : List Word := wordsOfNat32 (BitVec.ofInt 32 i).toNat

/-- A value of up to 48 bits in three words, high word first (R193, the window sum). -/
def wordsOfNat48 (n : Nat) : List Word :=
  [BitVec.ofNat 16 (n / 4294967296), BitVec.ofNat 16 (n / 65536), BitVec.ofNat 16 n]

/-- R193: a value that may be absent is a word of 0 or 1, then the value's words, which are 0 when absent. -/
def wordsOfOption (size : Nat) : Option (List Word) → List Word
  | none => 0 :: List.replicate size 0
  | some ws => 1 :: ws

/-! ## Codes (R192, R193) -/

def DriveState.code : DriveState → Nat
  | .blocked => 0
  | .ready => 1
  | .running => 2
  | .turning => 3
  | .stopping => 4
  | .auxiliary => 5
  | .tripped => 6

def Grant.code : Grant → Nat
  | .none => 0
  | .granted => 1
  | .recalling => 2

def Quality.code : Quality → Nat
  | .fresh => 0
  | .held => 1
  | .bad => 2

def Level.code : Level → Nat
  | .operate => 0
  | .commission => 1

def Motor.code : Motor → Nat
  | .a => 1
  | .b => 2

def Who.code : Who → Nat
  | .nobody => 0
  | .motor m => m.code
  | .channel k => 4 + k.val

/-- The cause codes 1 to 16 (section 8.1). -/
def Cause.code : Cause → Nat
  | .converterA => 1
  | .converterB => 2
  | .overcurrentA => 3
  | .overcurrentB => 4
  | .cycleLost => 5
  | .sampleLoss => 6
  | .overspeed => 7
  | .external => 8
  | .saturationA => 9
  | .saturationB => 10
  | .shockRepeat => 11
  | .breakawayFailed => 12
  | .vibPersist => 13
  | .sensorDead => 14
  | .referenceLoss => 15
  | .imbalance => 16

/-- The place of a kind in the attention set: its default position less one (section 11.1). -/
def Attention.index : Attention → Fin 15
  | .trip => 0
  | .recordDone => 1
  | .recordNotKept => 2
  | .vibAlarm => 3
  | .sensorDead => 4
  | .shock => 5
  | .saturation => 6
  | .imbalance => 7
  | .vibWarning => 8
  | .torqueLimit => 9
  | .turnDue => 10
  | .turnOverdue => 11
  | .auxStuck => 12
  | .linkQuality => 13
  | .tableActivated => 14

/-- The attention code: the default position, 1 to 15 (R192). -/
def Attention.code (k : Attention) : Nat := k.index.val + 1

/-- All kinds, highest default position first. -/
def Attention.all : List Attention :=
  [.trip, .recordDone, .recordNotKept, .vibAlarm, .sensorDead, .shock, .saturation, .imbalance,
   .vibWarning, .torqueLimit, .turnDue, .turnOverdue, .auxStuck, .linkQuality, .tableActivated]

def ResultCode.code : ResultCode → Nat
  | .done => 0
  | .busy => 1
  | .refusedState => 2
  | .refusedAccess => 3
  | .frozen => 4
  | .badArgument => 5
  | .invalidTable => 6
  | .notFound => 7
  | .cancelled => 8

def Table.code : Table → Nat
  | .speedSchedule => 0
  | .vibThresholds => 1
  | .slotMap => 2
  | .driveConstants => 3

def Table.ofCode : Nat → Option Table
  | 0 => some .speedSchedule
  | 1 => some .vibThresholds
  | 2 => some .slotMap
  | 3 => some .driveConstants
  | _ => none

def Confirmed.code : Confirmed → Nat
  | .normal => 0
  | .warning => 1
  | .alarm => 2
  | .dead => 3

def RawSummary.code : RawSummary → Nat
  | .quiet => 0
  | .warn => 1
  | .alarm => 2
  | .dead => 3

def RawResult.code : RawResult → Nat
  | .none => 0
  | .void => 1
  | .notCompared => 2
  | .normal => 3
  | .aboveWarn => 4
  | .aboveAlarm => 5
  | .belowDead => 6

def RecordState.code : RecordState → Nat
  | .empty => 0
  | .capturing => 1
  | .complete => 2
  | .truncated => 3

def HolderState.code : HolderState → Nat
  | .free => 0
  | .answering => 1
  | .waitingSwap => 2
  | .reading => 3
  | .restarting => 4

def BreakawayOutcome.code : BreakawayOutcome → Nat
  | .none => 0
  | .achieved => 1
  | .abandoned => 2
  | .expired => 3

def managerCode : Manager → Nat
  | .driveMaster => 0
  | .serviceStation => 1

end Machine
end Sys2Proof
end

