-- ==== Sys2Proof/Machine/Operands.lean ====
section
/-! DEFINITION. Operand forms: arithmetic helpers, conditioning, slot map lookups, and table rows as words. -/

namespace Sys2Proof.Machine

/-! ## Arithmetic (Introduction, Rounding and width) -/

/-- *Clamp(x, ±L)*: x replaced by L when it exceeds L and by -L when it is below -L. -/
def clampInt (x limit : Int) : Int :=
  if limit < x then limit else if x < -limit then -limit else x

/-- Division rounded toward zero. -/
def truncDiv (x d : Int) : Int := Int.tdiv x d

/-- Division rounded toward minus infinity. -/
def floorDiv (x d : Int) : Int := Int.fdiv x d

/-- A count that increases by `k` and stops at `top`. -/
def bumpBy (top k n : Nat) : Nat := min top (n + k)

/-- A 16-bit count that increases by one and stops at 65535. -/
def bump (n : Nat) : Nat := bumpBy 65535 1 n

/-- A value for each channel, formed from another. -/
def map4 {α β : Type} (f : α → β) (v : Vector α 4) : Vector β 4 := #v[f v[0], f v[1], f v[2], f v[3]]

/-- A value for each record slot, formed from another. -/
def map8 {α β : Type} (f : α → β) (v : Vector α 8) : Vector β 8 :=
  #v[f v[0], f v[1], f v[2], f v[3], f v[4], f v[5], f v[6], f v[7]]

/-! ## The bank and the row in force -/

/-- R40: the pinned row while a row pin is on, and the computed row otherwise. -/
def Schedule.rowInForce (c : Schedule) : Fin 32 := c.pin.getD c.computedRow

/-- The Speed Schedule row in force of a bank. -/
def Schedule.speedRow (c : Schedule) (b : Bank) : SpeedRow := b.speed[c.rowInForce]

/-- The entry whose key equals source, kind and slot, NONE entries skipped (R9, R25). -/
def Bank.findKey (b : Bank) (src : Addr) (kind : SlotKind) (slot : Bool) : Option SlotEntry :=
  b.slots.toList.find? fun e => e.role != .none && e.source == src && e.kind == kind && e.slot == slot

/-- The entry that holds a role. -/
def Bank.findRole (b : Bank) (r : Role) : Option SlotEntry :=
  b.slots.toList.find? fun e => e.role == r

/-- The address of the converter of motor `m`: the source of the ARM_m entry (section 5.1). -/
def Bank.armAddr (b : Bank) (m : Motor) : Option Addr := (b.findRole (.arm m)).map (·.source)

/-- R10: the source address of the active AUX entry. -/
def State.auxAddr (s : State) : Option Addr :=
  s.sched.active.bind fun b => (b.findRole .aux).map (·.source)

/-- R10, R170: the active SERVICE entry's address and level. -/
def State.serviceEntry (s : State) : Option (Addr × Level) :=
  s.sched.active.bind fun b => (b.findRole .service).map fun e => (e.source, e.level)

/-- R170: which manager a source address is, and at which level. -/
def State.managerOf (s : State) (src : Addr) : Option (Manager × Level) :=
  if src = 0 then some (.driveMaster, .commission)
  else match s.serviceEntry with
    | some (a, l) => if a = src then some (.serviceStation, l) else none
    | none => none

/-- R11: floor((r + o) × k / 4096), saturated to ±32767. -/
def SlotEntry.condition (e : SlotEntry) (r : Int) : Int :=
  clampInt (floorDiv ((r + e.offset) * e.multiplier) 4096) 32767

/-- R11: a REF frame's torque reference; a carried -32768 is read as -32767. -/
def readReference (w : Word) : Int := if w.toInt = -32768 then -32767 else w.toInt

/-! ## Ranges at load (R23 to R26) -/

def inRange (lo hi n : Nat) : Bool := lo ≤ n && n ≤ hi

/-- R23. -/
def SpeedRow.inRange (r : SpeedRow) : Bool :=
  r.kp ≤ 4095 && r.ki ≤ 4095 && Machine.inRange 1024 4096 r.flux && r.fieldRef ≤ 4096 && r.lmot ≤ 12288 && r.lgen ≤ 12288

/-- R24: any 32-bit value is in range. -/
def VibCell.inRange (c : VibCell) : Bool :=
  c.deadLo < 4294967296 && c.warnHi < 4294967296 && c.alarmHi < 4294967296

/-- R25. -/
def SlotEntry.inRange (e : SlotEntry) : Bool :=
  e.source != 63 && -32768 ≤ e.offset && e.offset ≤ 32767 && e.multiplier ≤ 65535

/-- R26, group 0. -/
def Group0.inRange (g : Group0) : Bool :=
  Machine.inRange 256 8192 g.vlim && Machine.inRange 256 12288 g.imax && Machine.inRange 257 16384 g.iTrip &&
  Machine.inRange 1 1000 g.satLimit && g.ks ≤ 255 && g.trimMax ≤ 2048 && g.contactBias ≤ 1024 &&
  g.imbalanceLimit ≤ 8192 && Machine.inRange 1 10000 g.imbalanceCycles && Machine.inRange 1 8192 g.shockStep &&
  g.shockClamp ≤ 12288 && Machine.inRange 1 10000 g.shockHold && Machine.inRange 1 65535 g.shockWindow &&
  Machine.inRange 1 8 g.shockTripCount && g.breakawayLimit ≤ 12288 && Machine.inRange 1 65535 g.breakawayCycles &&
  Machine.inRange 1 32767 g.overspeed

/-- R26, group 1. -/
def Group1.inRange (g : Group1) : Bool :=
  Machine.inRange 1 4095 g.rowWidth && g.standstillSpeed ≤ 4095 && Machine.inRange 1 8191 g.movingSpeed &&
  Machine.inRange 1 10000 g.stopConfirm && Machine.inRange 20 4000 g.deadline && Machine.inRange 1 100 g.markTimeout &&
  Machine.inRange 1 255 g.missLimit && Machine.inRange 1 255 g.refLossLimit && Machine.inRange 64 4096 g.turnAngle &&
  Machine.inRange 60 7200 g.turnInterval && Machine.inRange 10 3600 g.turnOverdue && Machine.inRange 1 600 g.recallTimeout

/-- R26, group 2. -/
def Group2.inRange (g : Group2) : Bool :=
  Machine.inRange 16 1024 g.vibWindow && Machine.inRange 1 16 g.confirmWindows && Machine.inRange 1 16 g.releaseWindows &&
  g.persistWindows ≤ 255 && g.hysteresis ≤ 255 && g.derateLevel ≤ 12288 && Machine.inRange 1 16 g.deadWindows &&
  g.minDeadRow ≤ 31

/-- R26, group 3. -/
def Group3.inRange (g : Group3) : Bool :=
  g.preDepth ≤ 512 && g.postDepth ≤ 512 && g.priorities.toList.all (· ≤ 7) && Machine.inRange 1 8 g.noticeTrigger &&
  Machine.inRange 1 1000 g.noticeFlush && Machine.inRange 1 4 g.segmentSize

/-! ## Rows as words (section 12.3, R194) -/

def SlotKind.code : SlotKind → Nat
  | .armature => 0
  | .speed => 1
  | .reference => 2
  | .vibration => 3
  | .takeover => 4
  | .command => 5

def SlotKind.ofCode : Nat → Option SlotKind
  | 0 => some .armature
  | 1 => some .speed
  | 2 => some .reference
  | 3 => some .vibration
  | 4 => some .takeover
  | 5 => some .command
  | _ => none

def Role.code : Role → Nat
  | .none => 0
  | .arm .a => 1
  | .arm .b => 2
  | .speed => 3
  | .ref => 4
  | .vib k => 5 + k.val
  | .aux => 9
  | .service => 10

def Role.ofCode : Nat → Option Role
  | 0 => some .none
  | 1 => some (.arm .a)
  | 2 => some (.arm .b)
  | 3 => some .speed
  | 4 => some .ref
  | 5 => some (.vib 0)
  | 6 => some (.vib 1)
  | 7 => some (.vib 2)
  | 8 => some (.vib 3)
  | 9 => some .aux
  | 10 => some .service
  | _ => Option.none

def CauseClass.code : CauseClass → Nat
  | .trip => 0
  | .warn => 1
  | .ignore => 2

def CauseClass.ofCode : Nat → Option CauseClass
  | 0 => some .trip
  | 1 => some .warn
  | 2 => some .ignore
  | _ => none

/-- A value kept only when a check holds of it. -/
def keepIf {α : Type} (p : α → Bool) (x : α) : Option α := if p x then some x else none

def SpeedRow.decode : List Word → Option SpeedRow
  | [kp, ki, flux, fieldRef, lmot, lgen] =>
    keepIf SpeedRow.inRange ⟨kp.toNat, ki.toNat, flux.toNat, fieldRef.toNat, lmot.toNat, lgen.toNat⟩
  | _ => none

def SpeedRow.words (r : SpeedRow) : List Word :=
  [wordOfNat r.kp, wordOfNat r.ki, wordOfNat r.flux, wordOfNat r.fieldRef, wordOfNat r.lmot, wordOfNat r.lgen]

def nat32 (hi lo : Word) : Nat := hi.toNat * 65536 + lo.toNat

def VibCell.decode : List Word → Option VibCell
  | [a, b, c, d, e, f] => some ⟨nat32 a b, nat32 c d, nat32 e f⟩
  | _ => none

def VibCell.words (c : VibCell) : List Word :=
  wordsOfNat32 c.deadLo ++ wordsOfNat32 c.warnHi ++ wordsOfNat32 c.alarmHi

/-- A Vibration Thresholds row: channels 0 to 3 in turn. -/
def decodeVibRow (ws : List Word) : Option (Vector VibCell 4) :=
  if ws.length = 24 then
    match VibCell.decode (ws.take 6), VibCell.decode ((ws.drop 6).take 6),
      VibCell.decode ((ws.drop 12).take 6), VibCell.decode ((ws.drop 18).take 6) with
    | some a, some b, some c, some d => some #v[a, b, c, d]
    | _, _, _, _ => none
  else none

def wordsOfVibRow (r : Vector VibCell 4) : List Word :=
  r[0].words ++ r[1].words ++ r[2].words ++ r[3].words

/-- A Slot Map entry: a kind of 6 or 7, a role of 11 to 15, a source of 63 or the zero bit set is out of range. -/
def SlotEntry.decode : List Word → Option SlotEntry
  | [w, off, mul] =>
    if w.getLsbD 0 then none
    else match SlotKind.ofCode (bitsOf w 7 3), Role.ofCode (bitsOf w 2 4) with
      | some kind, some role =>
        keepIf SlotEntry.inRange
          { source := w.extractLsb' 10 6
            kind := kind
            slot := w.getLsbD 6
            role := role
            level := if w.getLsbD 1 then .commission else .operate
            offset := off.toInt
            multiplier := mul.toNat }
      | _, _ => none
  | _ => none

def SlotEntry.words (e : SlotEntry) : List Word :=
  [BitVec.ofNat 16 (e.source.toNat * 1024 + e.kind.code * 128 + e.slot.toNat * 64 + e.role.code * 4 + e.level.code * 2),
   wordOfInt e.offset, wordOfNat e.multiplier]

def Group0.decode : List Word → Option Group0
  | [vlim, imax, iTrip, satLimit, ks, trimMax, bias, imbLimit, imbCycles, step, clamp, hold, window, brkLimit, brkCycles,
      speedLimit] =>
    if bitsOf ks 12 4 = 0 then
      keepIf Group0.inRange
        { vlim := vlim.toNat
          imax := imax.toNat
          iTrip := iTrip.toNat
          satLimit := satLimit.toNat
          ks := bitsOf ks 0 8
          shockTripCount := bitsOf ks 8 4
          trimMax := trimMax.toNat
          contactBias := bias.toNat
          imbalanceLimit := imbLimit.toNat
          imbalanceCycles := imbCycles.toNat
          shockStep := step.toNat
          shockClamp := clamp.toNat
          shockHold := hold.toNat
          shockWindow := window.toNat
          breakawayLimit := brkLimit.toNat
          breakawayCycles := brkCycles.toNat
          overspeed := speedLimit.toNat }
    else none
  | _ => none

def Group0.words (g : Group0) : List Word :=
  [wordOfNat g.vlim, wordOfNat g.imax, wordOfNat g.iTrip, wordOfNat g.satLimit,
   wordOfNat (g.shockTripCount * 256 + g.ks), wordOfNat g.trimMax, wordOfNat g.contactBias,
   wordOfNat g.imbalanceLimit, wordOfNat g.imbalanceCycles, wordOfNat g.shockStep, wordOfNat g.shockClamp,
   wordOfNat g.shockHold, wordOfNat g.shockWindow, wordOfNat g.breakawayLimit, wordOfNat g.breakawayCycles,
   wordOfNat g.overspeed]

def Group1.decode : List Word → Option Group1
  | [rowWidth, standstill, moving, stopConfirm, deadline, markTimeout, missLimit, refLoss, angle, interval, overdue,
      recallWord] =>
    keepIf Group1.inRange
      { rowWidth := rowWidth.toNat
        standstillSpeed := standstill.toNat
        movingSpeed := moving.toNat
        stopConfirm := stopConfirm.toNat
        deadline := deadline.toNat
        markTimeout := markTimeout.toNat
        missLimit := missLimit.toNat
        refLossLimit := refLoss.toNat
        turnAngle := angle.toNat
        turnInterval := interval.toNat
        turnOverdue := overdue.toNat
        recallTimeout := recallWord.toNat }
  | _ => none

def Group1.words (g : Group1) : List Word :=
  [wordOfNat g.rowWidth, wordOfNat g.standstillSpeed, wordOfNat g.movingSpeed, wordOfNat g.stopConfirm,
   wordOfNat g.deadline, wordOfNat g.markTimeout, wordOfNat g.missLimit, wordOfNat g.refLossLimit,
   wordOfNat g.turnAngle, wordOfNat g.turnInterval, wordOfNat g.turnOverdue, wordOfNat g.recallTimeout]

/-- Bit `k` of the channel word: pinion A 0, B 1. -/
def pinionOf (w : Word) (k : Nat) : Motor := if w.getLsbD k then .b else .a

def Group2.decode : List Word → Option Group2
  | [window, confirm, release, persist, hyst, derate, dead, minDead, chan] =>
    if bitsOf chan 9 7 = 0 then
      keepIf Group2.inRange
        { vibWindow := window.toNat
          confirmWindows := confirm.toNat
          releaseWindows := release.toNat
          persistWindows := persist.toNat
          hysteresis := hyst.toNat
          derateLevel := derate.toNat
          deadWindows := dead.toNat
          minDeadRow := minDead.toNat
          pinion := #v[pinionOf chan 0, pinionOf chan 1, pinionOf chan 2, pinionOf chan 3]
          discardOnShock := #v[chan.getLsbD 4, chan.getLsbD 5, chan.getLsbD 6, chan.getLsbD 7]
          vibLatch := chan.getLsbD 8 }
    else none
  | _ => none

/-- A bit of weight 2^k. -/
def bitAt (b : Bool) (k : Nat) : Nat := b.toNat * 2 ^ k

def Group2.channelWord (g : Group2) : Nat :=
  bitAt (g.pinion[0] == .b) 0 + bitAt (g.pinion[1] == .b) 1 + bitAt (g.pinion[2] == .b) 2 + bitAt (g.pinion[3] == .b) 3 +
  bitAt g.discardOnShock[0] 4 + bitAt g.discardOnShock[1] 5 + bitAt g.discardOnShock[2] 6 +
  bitAt g.discardOnShock[3] 7 + bitAt g.vibLatch 8

def Group2.words (g : Group2) : List Word :=
  [wordOfNat g.vibWindow, wordOfNat g.confirmWindows, wordOfNat g.releaseWindows, wordOfNat g.persistWindows,
   wordOfNat g.hysteresis, wordOfNat g.derateLevel, wordOfNat g.deadWindows, wordOfNat g.minDeadRow,
   wordOfNat g.channelWord]

/-- The class of code 9 + i: bits 2i+1..2i of the class word. -/
def classAt (w : Word) (i : Nat) : Option CauseClass := CauseClass.ofCode (bitsOf w (2 * i) 2)

def decodeClasses (w : Word) : Option (Vector CauseClass 8) :=
  match classAt w 0, classAt w 1, classAt w 2, classAt w 3, classAt w 4, classAt w 5, classAt w 6, classAt w 7 with
  | some a, some b, some c, some d, some e, some f, some g, some h => some #v[a, b, c, d, e, f, g, h]
  | _, _, _, _, _, _, _, _ => none

def classWord (v : Vector CauseClass 8) : Nat :=
  v[0].code + v[1].code * 4 + v[2].code * 16 + v[3].code * 64 + v[4].code * 256 + v[5].code * 1024 +
  v[6].code * 4096 + v[7].code * 16384

/-- The five priorities of a priority word: the kind with j = (p - 1) mod 5 at bits 3j+2..3j. -/
def priorityWord (a b c d e : Nat) : Nat := a + b * 8 + c * 64 + d * 512 + e * 4096

def Group3.decode : List Word → Option Group3
  | [pre, post, lock, cls, p0, p1, p2, trigger, flush, seg] =>
    if p0.getLsbD 15 || p1.getLsbD 15 || p2.getLsbD 15 then none
    else match decodeClasses cls with
      | some classes =>
        keepIf Group3.inRange
          { preDepth := pre.toNat
            postDepth := post.toNat
            lockSet := lock
            classes := classes
            priorities := #v[bitsOf p0 0 3, bitsOf p0 3 3, bitsOf p0 6 3, bitsOf p0 9 3, bitsOf p0 12 3,
              bitsOf p1 0 3, bitsOf p1 3 3, bitsOf p1 6 3, bitsOf p1 9 3, bitsOf p1 12 3,
              bitsOf p2 0 3, bitsOf p2 3 3, bitsOf p2 6 3, bitsOf p2 9 3, bitsOf p2 12 3]
            noticeTrigger := trigger.toNat
            noticeFlush := flush.toNat
            segmentSize := seg.toNat }
      | none => none
  | _ => none

def Group3.words (g : Group3) : List Word :=
  let p := g.priorities
  [wordOfNat g.preDepth, wordOfNat g.postDepth, g.lockSet, wordOfNat (classWord g.classes),
   wordOfNat (priorityWord p[0] p[1] p[2] p[3] p[4]), wordOfNat (priorityWord p[5] p[6] p[7] p[8] p[9]),
   wordOfNat (priorityWord p[10] p[11] p[12] p[13] p[14]), wordOfNat g.noticeTrigger, wordOfNat g.noticeFlush,
   wordOfNat g.segmentSize]

/-! ## All-zero tables (R28) -/

def SpeedRow.zero : SpeedRow := ⟨0, 0, 0, 0, 0, 0⟩
def VibCell.zero : VibCell := ⟨0, 0, 0⟩
def SlotEntry.zero : SlotEntry := ⟨0, .armature, false, .none, .operate, 0, 0⟩
def Group0.zero : Group0 := ⟨0, 0, 0, 0, 0, 0, 0, 0, 0, 0, 0, 0, 0, 0, 0, 0, 0⟩
def Group1.zero : Group1 := ⟨0, 0, 0, 0, 0, 0, 0, 0, 0, 0, 0, 0⟩
def Group2.zero : Group2 :=
  ⟨0, 0, 0, 0, 0, 0, 0, 0, Vector.replicate 4 .a, Vector.replicate 4 false, false⟩
def Group3.zero : Group3 := ⟨0, 0, 0, Vector.replicate 8 .trip, Vector.replicate 15 0, 0, 0, 0⟩

/-- R28: a bank of four all-zero tables. -/
def Bank.zero : Bank where
  speed := Vector.replicate 32 SpeedRow.zero
  vib := Vector.replicate 32 (Vector.replicate 4 VibCell.zero)
  slots := Vector.replicate 32 SlotEntry.zero
  dc := ⟨Group0.zero, Group1.zero, Group2.zero, Group3.zero⟩

/-! ## Rows of a table by number (R27, R29) -/

/-- The number of rows of a table (R27). -/
def Table.rows : Table → Nat
  | .driveConstants => 4
  | _ => 32

/-- The words of row `r` of a table (section 12.3). -/
def Table.rowSize : Table → Nat → Nat
  | .speedSchedule, _ => 6
  | .vibThresholds, _ => 24
  | .slotMap, _ => 3
  | .driveConstants, 0 => 16
  | .driveConstants, 1 => 12
  | .driveConstants, 2 => 9
  | .driveConstants, _ => 10

/-- R194: the largest row count of one command or response frame. -/
def Table.maxCount : Table → Nat
  | .speedSchedule => 9
  | .vibThresholds => 2
  | .slotMap => 19
  | .driveConstants => 4

/-- The bank with row `r` of table `t` replaced by the row the words carry; none when a field is out of range. -/
def Bank.loadRow (b : Bank) (t : Table) (r : Nat) (ws : List Word) : Option Bank :=
  match t with
  | .speedSchedule => (SpeedRow.decode ws).map fun x => { b with speed := b.speed.setIfInBounds r x }
  | .vibThresholds => (decodeVibRow ws).map fun x => { b with vib := b.vib.setIfInBounds r x }
  | .slotMap => (SlotEntry.decode ws).map fun x => { b with slots := b.slots.setIfInBounds r x }
  | .driveConstants =>
    match r with
    | 0 => (Group0.decode ws).map fun x => { b with dc := { b.dc with g0 := x } }
    | 1 => (Group1.decode ws).map fun x => { b with dc := { b.dc with g1 := x } }
    | 2 => (Group2.decode ws).map fun x => { b with dc := { b.dc with g2 := x } }
    | 3 => (Group3.decode ws).map fun x => { b with dc := { b.dc with g3 := x } }
    | _ => none

/-- R27, R194: `count` rows from row `first`; none when any field is out of range or the words do not fit. -/
def Bank.loadRows (b : Bank) (t : Table) (first : Nat) : Nat → List Word → Option Bank
  | 0, ws => if ws.isEmpty then some b else none
  | n + 1, ws =>
    let size := t.rowSize first
    match b.loadRow t first (ws.take size) with
    | some b' => b'.loadRows t (first + 1) n (ws.drop size)
    | none => none

/-- Row `r` of table `t` as words (R194: zero bits 0). -/
def Bank.rowWords (b : Bank) (t : Table) (r : Nat) : List Word :=
  match t with
  | .speedSchedule => (b.speed[r]?.getD SpeedRow.zero).words
  | .vibThresholds => wordsOfVibRow (b.vib[r]?.getD (Vector.replicate 4 VibCell.zero))
  | .slotMap => (b.slots[r]?.getD SlotEntry.zero).words
  | .driveConstants =>
    match r with
    | 0 => b.dc.g0.words
    | 1 => b.dc.g1.words
    | 2 => b.dc.g2.words
    | _ => b.dc.g3.words

/-- `count` rows from row `first`, as words. -/
def Bank.rowsWords (b : Bank) (t : Table) (first : Nat) : Nat → List Word
  | 0 => []
  | n + 1 => b.rowWords t first ++ b.rowsWords t (first + 1) n

/-- R27, R29, R194: first row and count lie within the table and within what one frame carries. -/
def Table.rowsFit (t : Table) (first count : Nat) : Bool :=
  1 ≤ count && count ≤ t.maxCount && first + count ≤ t.rows

end Sys2Proof.Machine
end

