-- ==== Sys2Proof/Machine/Flags.lean ====
section
/-! DEFINITION. Values formed from the state when they are read: drive-state classes, brake command, summaries,
attention choice, cause classes, level conditions and their standing flags. -/

namespace Sys2Proof.Machine

/-- Section 7.1: RUNNING, TURNING and STOPPING are the running states. -/
def DriveState.isRunning : DriveState → Bool
  | .running => true
  | .turning => true
  | .stopping => true
  | _ => false

/-- R3: straps of 0 or 63 make a forwarding-only station. -/
def State.forwardingOnly (s : State) : Bool := s.rp.strap == 0 || s.rp.strap == 63

/-- The tag of the open cycle, or 0 while no cycle is open (R187, R191). -/
def State.cycleTag (s : State) : Word := s.intake.cycle.getD 0

/-- The row in force (R40). -/
def State.row (s : State) : Fin 32 := s.sched.rowInForce

/-! ## Brake command (R123) -/

/-- The brake command, in the order of R192's codes. -/
inductive Brake where
  | apply
  | release
  | aux
deriving DecidableEq, Repr

def Brake.code : Brake → Nat
  | .apply => 0
  | .release => 1
  | .aux => 2

/-- R123. -/
def Sequencer.brake (q : Sequencer) : Brake :=
  match q.drive with
  | .blocked => .apply
  | .ready => .apply
  | .running => .release
  | .turning => .release
  | .stopping => .release
  | .auxiliary => .aux
  | .tripped => if q.grant = .none then .apply else .aux

/-! ## Vibration summaries (R114, R192) -/

/-- R114: the raw summary value of a raw result. -/
def RawResult.summary : RawResult → RawSummary
  | .none => .quiet
  | .void => .quiet
  | .notCompared => .quiet
  | .normal => .quiet
  | .aboveWarn => .warn
  | .aboveAlarm => .alarm
  | .belowDead => .dead

def Vibration.confirmedSummary (v : Vibration) : Vector Confirmed 4 := map4 (fun ch => ch.conf.state) v.channels

def Vibration.rawSummary (v : Vibration) : Vector RawSummary 4 := map4 (fun ch => ch.raw.summary) v.channels

/-- R192: two bits for each channel k, at bits 2k+1..2k. -/
def confirmedByte (v : Vector Confirmed 4) : Nat := v[0].code + v[1].code * 4 + v[2].code * 16 + v[3].code * 64

def rawByte (v : Vector RawSummary 4) : Nat := v[0].code + v[1].code * 4 + v[2].code * 16 + v[3].code * 64

/-! ## The highest pending attention (R183) -/

/-- The priority of a kind: 0 while the active bank is EMPTY. -/
def State.priorityOf (s : State) (k : Attention) : Nat :=
  match s.sched.active with
  | none => 0
  | some b => b.dc.g3.priorities[k.index]

/-- One step of the choice: a pending kind takes the place of the best so far only with a greater priority, so
that the kind earlier in the default order wins among equals. -/
def State.betterKind (s : State) (best : Option Attention) (k : Attention) : Option Attention :=
  if s.rpt.attention[k.index] then
    match best with
    | none => some k
    | some j => if s.priorityOf j < s.priorityOf k then some k else some j
  else best

/-- R183. -/
def State.highestPending (s : State) : Option Attention := Attention.all.foldl s.betterKind none

/-- The number of kinds pending. -/
def Reporter.pendingCount (r : Reporter) : Nat := r.attention.toList.countP id

/-! ## Causes (section 8.1) -/

def Cause.converter : Motor → Cause
  | .a => .converterA
  | .b => .converterB

def Cause.overcurrent : Motor → Cause
  | .a => .overcurrentA
  | .b => .overcurrentB

def Cause.saturation : Motor → Cause
  | .a => .saturationA
  | .b => .saturationB

/-- The report kind of a cause (section 8.1). -/
def Cause.reportKind : Cause → Attention
  | .converterA => .trip
  | .converterB => .trip
  | .overcurrentA => .trip
  | .overcurrentB => .trip
  | .cycleLost => .linkQuality
  | .sampleLoss => .linkQuality
  | .overspeed => .trip
  | .external => .trip
  | .saturationA => .saturation
  | .saturationB => .saturation
  | .shockRepeat => .shock
  | .breakawayFailed => .torqueLimit
  | .vibPersist => .vibAlarm
  | .sensorDead => .sensorDead
  | .referenceLoss => .linkQuality
  | .imbalance => .imbalance

/-- The place of a configurable cause in the cause classes of group 3. -/
def Cause.configIndex : Cause → Option (Fin 8)
  | .saturationA => some 0
  | .saturationB => some 1
  | .shockRepeat => some 2
  | .breakawayFailed => some 3
  | .vibPersist => some 4
  | .sensorDead => some 5
  | .referenceLoss => some 6
  | .imbalance => some 7
  | _ => none

/-- R139: codes 1 to 8 have class TRIP; codes 9 to 16 the class of the active bank. A configurable cause cannot
be raised while the active bank is EMPTY; it is then ignored. -/
def State.classOf (s : State) (c : Cause) : CauseClass :=
  match c.configIndex with
  | none => .trip
  | some i =>
    match s.sched.active with
    | none => .ignore
    | some b => b.dc.g3.classes[i]

/-- The standing flag of a level cause, clear for an edge cause (R141). -/
def StandingFlags.get (f : StandingFlags) : Cause → Bool
  | .converterA => f.converter.a
  | .converterB => f.converter.b
  | .overcurrentA => f.overcurrent.a
  | .overcurrentB => f.overcurrent.b
  | .cycleLost => f.cycleLost
  | .sampleLoss => f.sampleLoss
  | .referenceLoss => f.referenceLoss
  | _ => false

/-- The flags with that of a level cause set; an edge cause has none. -/
def StandingFlags.raised (f : StandingFlags) : Cause → StandingFlags
  | .converterA => { f with converter := { f.converter with a := true } }
  | .converterB => { f with converter := { f.converter with b := true } }
  | .overcurrentA => { f with overcurrent := { f.overcurrent with a := true } }
  | .overcurrentB => { f with overcurrent := { f.overcurrent with b := true } }
  | .cycleLost => { f with cycleLost := true }
  | .sampleLoss => { f with sampleLoss := true }
  | .referenceLoss => { f with referenceLoss := true }
  | _ => f

/-- R18: SAMPLE_LOSS stands while it stands on any of ARM_A, ARM_B and SPEED. -/
def Intake.sampleLossStands (i : Intake) : Bool :=
  i.arm.a.status.lossStands || i.arm.b.status.lossStands || i.speed.status.lossStands

/-- R141: the condition a level cause rests on, as its owner holds it; an edge cause has none. -/
def State.conditionStands (s : State) : Cause → Bool
  | .converterA => s.tru.converterFault.a.isSome
  | .converterB => s.tru.converterFault.b.isSome
  | .overcurrentA => s.reg.a.overcurrent
  | .overcurrentB => s.reg.b.overcurrent
  | .cycleLost => s.intake.markLoss
  | .sampleLoss => s.intake.sampleLossStands
  | .referenceLoss => s.intake.ref.status.lossStands
  | _ => false

/-- R141: every standing flag whose condition no longer stands is cleared. -/
def State.survivingFlags (s : State) : StandingFlags :=
  let f := s.tru.standing
  { converter := ⟨f.converter.a && s.conditionStands .converterA, f.converter.b && s.conditionStands .converterB⟩
    overcurrent :=
      ⟨f.overcurrent.a && s.conditionStands .overcurrentA, f.overcurrent.b && s.conditionStands .overcurrentB⟩
    cycleLost := f.cycleLost && s.conditionStands .cycleLost
    sampleLoss := f.sampleLoss && s.conditionStands .sampleLoss
    referenceLoss := f.referenceLoss && s.conditionStands .referenceLoss }

/-- R148: the lowest-numbered fixed-class level cause whose condition stands. -/
def State.lowestStanding (s : State) : Option Cause :=
  [Cause.converterA, .converterB, .overcurrentA, .overcurrentB, .cycleLost, .sampleLoss].find? s.conditionStands

/-! ## Words of flags -/

/-- R192, echo word 3. -/
def State.echoFlags (s : State) : Nat :=
  bitAt s.lim.motor.a.limited 0 + bitAt s.lim.motor.b.limited 1 + s.seq.brake.code * 4 + s.seq.grant.code * 16 +
  bitAt s.seq.turnDue 6 + bitAt s.seq.turnComplete 7 + bitAt s.seq.hot 8 + bitAt s.tru.declared 9

/-- R195, snapshot word 11. -/
def Snapshot.statusWord (p : Snapshot) : Nat :=
  p.drive.code * 8192 + p.row.val * 256 + bitAt p.limited.a 7 + bitAt p.limited.b 6 + bitAt p.shockClamp.a 5 +
  bitAt p.shockClamp.b 4 + bitAt p.breakaway 3 + bitAt p.saturated.a 2 + bitAt p.saturated.b 1

/-- R195, snapshot word 12. -/
def Snapshot.qualityWord (p : Snapshot) : Nat :=
  p.qArm.a.code * 16384 + p.qArm.b.code * 4096 + p.qSpeed.code * 1024 + p.qRef.code * 256 + confirmedByte p.confirmed

/-- R195: the fourteen words of a snapshot. -/
def Snapshot.words (p : Snapshot) : List Word :=
  [p.tag, wordOfInt p.tref, wordOfInt p.applied.a, wordOfInt p.applied.b, wordOfInt p.iref.a, wordOfInt p.iref.b,
   wordOfInt p.imeas.a, wordOfInt p.imeas.b, wordOfInt p.u.a, wordOfInt p.u.b, wordOfInt p.speed,
   wordOfNat p.statusWord, wordOfNat p.qualityWord, wordOfNat (p.marker * 256 + rawByte p.raw)]

/-- The (code, trip age) pairs of a list of later causes, in four places, unused ones 0 (R195). -/
def laterWords (l : List (Nat × Nat)) : List Word :=
  let ws := l.flatMap fun e => [wordOfNat e.1, wordOfNat e.2]
  ws ++ List.replicate (8 - ws.length) 0

/-- R195: the 37 words of a slot's record header. -/
def RecordSlot.headerWords (t : RecordSlot) : List Word :=
  let h := t.header
  wordsOfNat32 h.seq ++ [wordOfNat h.causeCode, wordOfNat h.who.code, wordOfInt h.detail, h.tripTag,
    wordOfNat h.drive.code, wordOfNat h.row] ++ wordsOfNat32 h.generation ++
  [wordOfNat h.lmotEff.a, wordOfNat h.lgenEff.a, wordOfNat h.lmotEff.b, wordOfNat h.lgenEff.b] ++
  h.lastMs.toList.flatMap wordsOfNat32 ++
  [wordOfNat (confirmedByte h.confirmed), wordOfNat h.later.length] ++ laterWords h.later ++
  [wordOfNat h.dropped, wordOfNat h.pre, wordOfNat h.post, wordOfNat t.state.code, wordOfBool t.locked]

end Sys2Proof.Machine
end

