-- ==== Sys2Proof/Machine/Ops.lean ====
section
/-! DEFINITION. The operations several blocks share: free choices, the output port and its stores, raises at the
Reporter, responses formed, drive frames, drive-state changes. -/

namespace Sys2Proof.Machine

/-! ## Free choices (notes/assumptions/3.md) -/

/-- The state after one free choice has been drawn. -/
def State.drawn (s : State) : State := { s with draws := s.draws + 1 }

/-- A free Boolean: the choice the next draw gives. -/
def State.coin (s : State) : Bool := Config.choice s.draws % 2 == 0

/-- Two actions between which the manual gives no order: `f` first or `g` first, as a free choice says. -/
def inEitherOrder (f g : State → State) (s : State) : State :=
  if s.coin then g (f s.drawn) else f (g s.drawn)

/-- A list of at most `n` actions between which the manual gives no order. -/
def inAnyOrder : Nat → List (State → State) → State → State
  | 0, _, s => s
  | _ + 1, [], s => s
  | _ + 1, [act], s => act s
  | n + 1, acts, s =>
    let i := Config.choice s.draws % acts.length
    inAnyOrder n (acts.eraseIdx i) ((acts.getD i id) s.drawn)

/-- A value of which the manual leaves two readings open. -/
def eitherValue {α : Type} (s : State) (x y : α) : α := if s.coin then x else y

/-! ## The output port (section 1.2) -/

/-- R5: the output arbiter. With the port free it starts the head of the forwarding buffer, else the older frame of the
priority pair, else the oldest frame of the general transmit queue, which keeps its place until it has left (R7). -/
def State.arbitrate (s : State) : State :=
  match s.rp.port with
  | .idle =>
    match s.rp.buffer with
    | f :: rest => { s with rp := { s.rp with port := .forwarding f, buffer := rest } }
    | [] =>
      match s.rp.pair with
      | f :: rest => { s with rp := { s.rp with port := .priority f, pair := rest } }
      | [] =>
        match s.rp.queue with
        | f :: _ => { s with rp := { s.rp with port := .general f } }
        | [] => s
  | _ => s

/-- R4: a frame joins the tail of the forwarding buffer, or is dropped and counted when four are held. -/
def State.forward (f : RawFrame) (s : State) : State :=
  if s.rp.buffer.length < 4 then
    ({ s with rp := { s.rp with buffer := s.rp.buffer ++ [f] } } : State).arbitrate
  else { s with rp := { s.rp with forwardOverflow := bump s.rp.forwardOverflow } }

/-- R6: a frame of the same kind to the same destination. -/
def sameKindAndDest (f g : RawFrame) : Bool := f.kindCode == g.kindCode && f.dest == g.dest

/-- R6: the priority pair after a frame has joined it, and whether that counts as a priority overrun. -/
def joinedPair (f : RawFrame) (pair : List RawFrame) : List RawFrame × Bool :=
  if pair.any (sameKindAndDest f) then (pair.map fun g => if sameKindAndDest f g then f else g, true)
  else if 2 ≤ pair.length then (pair.tail ++ [f], true)
  else (pair ++ [f], false)

/-- R6: a drive or echo frame joins the priority pair. A forwarding-only station produces no frame (R3). -/
def State.joinPair (f : RawFrame) (s : State) : State :=
  if s.forwardingOnly then s
  else
    let j := joinedPair f s.rp.pair
    ({ s with rp := { s.rp with
        pair := j.1
        priorityOverrun := if j.2 then bump s.rp.priorityOverrun else s.rp.priorityOverrun } } : State).arbitrate

/-- R7: a place of the general transmit queue is free. A forwarding-only station produces no frame (R3). -/
def State.placeFree (s : State) : Bool := !s.forwardingOnly && s.rp.queue.length < 16

/-- R7: a frame takes a free place of the general transmit queue. -/
def State.joinQueue (f : RawFrame) (s : State) : State :=
  ({ s with rp := { s.rp with queue := s.rp.queue ++ [f] } } : State).arbitrate

/-- R191: a frame the part produces, with its own address as source and the tag of the open cycle. -/
def State.ownFrame (s : State) (dest : Addr) (kind : Nat) (payload : List Word) : RawFrame :=
  makeFrame dest s.rp.strap kind s.cycleTag payload

/-! ## Raises at the Reporter (R182, R187, R188) -/

/-- R182: a detail value that is signed by its raising rule, saturated to 16 bits. -/
def signedDetail (x : Int) : Int := if x < -32768 then -32768 else if 32767 < x then 32767 else x

/-- R188: the reload of the flush timer, in microseconds: notice_flush, read as 1000 ms while the bank is EMPTY. -/
def State.flushReload (s : State) : FlushTimer :=
  .running (match s.sched.active with
    | none => 1000000
    | some b => b.dc.g3.noticeFlush * 1000)

/-- R188: notice_trigger, read as 1 while the active bank is EMPTY. -/
def State.noticeTrigger (s : State) : Nat :=
  match s.sched.active with
  | none => 1
  | some b => b.dc.g3.noticeTrigger

/-- A raise of an attention kind (R182). -/
structure Raise where
  kind : Attention
  causeCode : Nat
  who : Who
  detail : Int
deriving DecidableEq, Repr

/-- R187, R188: an entry joins the notice queue and reloads a STOPPED or RUNNING flush timer; with 32 entries held it
is dropped, sets the overflow flag and reloads nothing. -/
def Reporter.append (r : Reporter) (e : Notice) (reload : FlushTimer) : Reporter :=
  if r.notices.length < 32 then
    { r with
      notices := r.notices ++ [e]
      flush := if r.flush = .flushDue then .flushDue else reload }
  else { r with overflow := true }

/-- R182: the pending flag of the kind is set and one notice entry created. -/
def State.raiseAttention (x : Raise) (s : State) : State :=
  let e : Notice := ⟨x.kind, x.causeCode, s.cycleTag, x.who, x.detail⟩
  let r := { s.rpt with attention := s.rpt.attention.set x.kind.index true }
  { s with rpt := r.append e s.flushReload }

/-- Several raises, one after another. -/
def State.raiseAll (xs : List Raise) (s : State) : State := xs.foldl (fun t x => t.raiseAttention x) s

/-! ## Responses (R171 to R174) -/

/-- What the Request Handler keeps for a manager. -/
def Requests.get (q : Requests) : Manager → ManagerState
  | .driveMaster => q.master
  | .serviceStation => q.service

def Requests.set (q : Requests) (m : Manager) (x : ManagerState) : Requests :=
  match m with
  | .driveMaster => { q with master := x }
  | .serviceStation => { q with service := x }

/-- R174: a response formed joins the tail of its manager's reply list. -/
def State.formReply (m : Manager) (r : Reply) (s : State) : State :=
  let x := s.rqh.get m
  { s with rqh := s.rqh.set m { x with replies := x.replies ++ [r] } }

/-- Who asks: the manager, its access level at the take, and the address its command came from (R170). -/
structure Asker where
  manager : Manager
  level : Level
  addr : Addr
deriving DecidableEq, Repr

/-- What an owning rule decides of a request: the state it leaves, and the result code and results of the response formed at
the take, none for an Activate that becomes PENDING (R173). -/
abbrev Answered := State × Option (ResultCode × List Word)

/-- A request refused: nothing changes, and the response carries no results (R193). -/
def refuse (r : ResultCode) (s : State) : Answered := (s, some (r, []))

/-- A request answered DONE with results. -/
def answerDone (results : List Word) (s : State) : Answered := (s, some (.done, results))

/-- The request kinds of R193 that rules name. -/
def reqReadRecord : Nat := 16
def reqAbortReadout : Nat := 17
def reqActivate : Nat := 23
def reqRestart : Nat := 28

/-- R34, R37: a pending activation ends, and the manager who asked is answered at the address recorded; its holder passes
from WAITING_SWAP to ANSWERING (R172). -/
def State.answerActivation (result : ResultCode) (s : State) : State :=
  match s.sched.activation with
  | none => s
  | some m =>
    let x := s.rqh.get m
    let r : Reply := ⟨x.holder.addr, wordOfNat reqActivate, x.holder.tag, result, [], s.cycleTag, .answer⟩
    { s with
      sched := { s.sched with activation := none }
      rqh := s.rqh.set m { x with holder := { x.holder with state := .answering }, replies := x.replies ++ [r] } }

/-- R42: the row pin ends. -/
def State.endPin (s : State) : State := { s with sched := { s.sched with pin := none } }

/-! ## Producers of the general transmit queue (R7) -/

/-- R164, R165: a record data segment is still in the general transmit queue. -/
def State.segmentQueued (s : State) : Bool := s.rp.queue.any fun f => f.kindCode == kindRecordData

/-- A producer has a frame to offer. The Recorder in SENDING offers its next segment once the Read Record response has
joined the queue and no earlier segment is in it (R164), in CLOSING its record end (R165). -/
def State.producerReady (s : State) : Producer → Bool
  | .reply m => !(s.rqh.get m).replies.isEmpty
  | .notice =>
    !s.rpt.notices.isEmpty && (s.noticeTrigger ≤ s.rpt.notices.length || s.rpt.flush == .flushDue)
  | .record =>
    match s.recorder.readout with
    | .idle => false
    | .sending r => (s.rqh.get r.manager).holder.state == .reading && !s.segmentQueued
    | .closing _ => !s.segmentQueued
  | .aux => s.seq.outgoing.isSome

/-- All producers. -/
def Producer.all : List Producer := [.reply .driveMaster, .reply .serviceStation, .notice, .record, .aux]

/-- R7: the waiters of one fall of a place that have stayed ready since. -/
def State.stillReady (s : State) (ws : List Waiter) : List Waiter := ws.filter fun w => s.producerReady w.producer

/-- R7: the producers that became ready no later than the earliest fall of a place that still owes one of them a place; none while
no fall does. `waiters` holds the falls, oldest first, each with the producers that were ready at it. -/
def State.frontWaiters (s : State) : List Producer :=
  (((s.rp.waiters.map s.stillReady).find? fun ws => ws.any (·.owed)).getD []).map (·.producer)

/-- R7: any ready producer may take a free place, but none that was ready when a place fell free is passed over by one
that became ready after that. -/
def State.mayTake (s : State) (p : Producer) : Bool :=
  s.placeFree && s.producerReady p && (s.frontWaiters.isEmpty || s.frontWaiters.contains p)

/-- The waiters of one fall after a producer has taken a place; `ready` where it has another frame to offer. -/
def servedWaiters (p : Producer) (ready : Bool) (ws : List Waiter) : List Waiter :=
  if ready then ws.map fun w => if w.producer = p then { w with owed := false } else w
  else ws.filter fun w => w.producer != p

/-- R7: a producer has taken its place and is owed none. One that still has a frame to offer has not become ready anew, and so may
take any later place with the others (notes/assumptions/8.md). -/
def State.tookPlace (p : Producer) (s : State) : State :=
  { s with rp := { s.rp with waiters := s.rp.waiters.map (servedWaiters p (s.producerReady p)) } }

/-- R7: a place falls free as the head of the queue leaves. Every producer ready at that moment is owed one before those that become
ready later; an earlier fall with the same producers says no more than this one. -/
def State.placeFellFree (s : State) : State :=
  let t : State := { s with rp := { s.rp with queue := s.rp.queue.tail } }
  let fresh := (Producer.all.filter t.producerReady).map fun p => (⟨p, true⟩ : Waiter)
  let kept := (t.rp.waiters.map t.stillReady).filter fun ws =>
    ws.any (·.owed) && ws.map (·.producer) != fresh.map (·.producer)
  { t with rp := { t.rp with waiters := if fresh.isEmpty then [] else kept ++ [fresh] } }

/-! ## Drive frames (section 5.3) -/

/-- R86 to R88: a drive frame to the converter of motor `m` joins the priority pair; none while no ARM_m entry is active. -/
def State.produceDrive (m : Motor) (enable : Bool) (u : Int) (field : Nat) (s : State) : State :=
  match s.sched.active.bind fun b => b.armAddr m with
  | none => s
  | some dest => s.joinPair (s.ownFrame dest kindDrive [wordOfBool enable, wordOfInt u, wordOfNat field])

/-- R87: the field reference of a block frame: the row's field_ref in READY and AUXILIARY, 0 in the other states. -/
def State.blockField (s : State) : Nat :=
  match s.seq.drive, s.sched.active with
  | .ready, some b => (s.sched.speedRow b).fieldRef
  | .auxiliary, some b => (s.sched.speedRow b).fieldRef
  | _, _ => 0

/-- R87, R88: both regulators produce a block frame with voltage reference 0. They have no order between them. -/
def State.produceBlocks (s : State) : State :=
  match s.sched.active with
  | none => s
  | some _ =>
    inEitherOrder (fun t => t.produceDrive .a false 0 s.blockField) (fun t => t.produceDrive .b false 0 s.blockField) s

/-- R88: what a regulator keeps when the drive leaves the running states. -/
def Regulator.quiet (r : Regulator) : Regulator := { r with output := 0, saturated := false }

/-- R88: the drive has left the running states: block frames at once, outputs 0, saturation flags clear. -/
def State.leaveRunning (s : State) : State :=
  let t := s.produceBlocks
  { t with reg := ⟨t.reg.a.quiet, t.reg.b.quiet⟩ }

/-! ## Drive state (R115) -/

/-- R125: the turn timer is COUNTING in READY and AUXILIARY and PAUSED in the other states, its time kept. -/
def TurnTimer.follow (t : TurnTimer) (d : DriveState) : TurnTimer :=
  let counts := d == .ready || d == .auxiliary
  match t with
  | .counting us => if counts then .counting us else .paused us
  | .paused us => if counts then .counting us else .paused us
  | .idle => .idle
  | .expired => .expired

/-- A change of drive state, with the turn timer following it. -/
def State.setDrive (d : DriveState) (s : State) : State :=
  { s with seq := { s.seq with drive := d, turnTimer := s.seq.turnTimer.follow d } }

/-- R67: a RUNNING breakaway allowance ends as abandoned. -/
def State.abandonBreakaway (s : State) : State :=
  match s.lim.breakaway with
  | none => s
  | some _ => { s with lim := { s.lim with breakaway := none, outcome := .abandoned } }

/-! ## Auxiliary frames (R129) -/

/-- The reasons of a decline (R192). -/
def declineTurnDue : Nat := 1
def declineRunning : Nat := 2
def declineTurning : Nat := 3
def declineBlocked : Nat := 4
def declineTripped : Nat := 5

/-- R129: a frame for the auxiliary drive controller is placed in the outgoing place, where it replaces a waiting one. -/
def State.produceAux (kind : Nat) (payload : List Word) (s : State) : State :=
  match s.auxAddr with
  | none => s
  | some dest => { s with seq := { s.seq with outgoing := some (s.ownFrame dest kind payload) } }

def State.produceHandover (s : State) : State := s.produceAux kindHandover []
def State.produceRecall (s : State) : State := s.produceAux kindRecall []
def State.produceDecline (reason : Nat) (s : State) : State := s.produceAux kindDecline [wordOfNat reason]

end Sys2Proof.Machine
end

