-- ==== Sys2Proof/Machine/Reporter.lean ====
section
/-! DEFINITION. The Reporter (chapter 11): echo, notice frames, flush timer, Poll Attention. -/

namespace Sys2Proof.Machine

/-! ## The echo (R185, R186) -/

/-- R186, R192: the payload of the echo. -/
def State.echoPayload (s : State) : List Word :=
  [wordOfNat s.seq.drive.code,
   wordOfNat (match s.highestPending with
     | none => 0
     | some k => k.code),
   wordOfInt (s.lim.motor.a.applied + s.lim.motor.b.applied),
   wordOfNat s.echoFlags,
   wordOfNat s.row.val,
   wordOfNat (rawByte s.vib.rawSummary * 256 + confirmedByte s.vib.confirmedSummary)]

/-- R185: the echo, addressed to the drive master, joins the priority pair. -/
def State.produceEcho (s : State) : State := s.joinPair (s.ownFrame 0 kindEcho s.echoPayload)

/-! ## Notice frames (R188) -/

/-- R192: the five words of a notice entry. -/
def Notice.words (e : Notice) : List Word :=
  [wordOfNat e.kind.code, wordOfNat e.causeCode, e.tag, wordOfNat e.who.code, wordOfInt e.detail]

/-- R188, R192: the payload of a notice frame of the oldest `n` entries. -/
def Reporter.noticePayload (r : Reporter) (n : Nat) : List Word :=
  wordOfNat (bitAt r.overflow 15 + n) :: (r.notices.take n).flatMap Notice.words

/-- R188: a notice frame of the oldest min(8, fill) entries, when the Reporter has one to send and may take a place. -/
def State.sendNotices (s : State) : State :=
  if s.mayTake .notice then
    let n := min 8 s.rpt.notices.length
    let f := s.ownFrame 0 kindNotice (s.rpt.noticePayload n)
    let r := { s.rpt with notices := s.rpt.notices.drop n, overflow := false, flush := s.flushReload }
    (({ s with rpt := r } : State).joinQueue f).tookPlace .notice
  else s

/-- R188: a RUNNING flush timer expires: FLUSH_DUE with an entry held, STOPPED with none. -/
def State.flushExpires (s : State) : State :=
  match s.rpt.flush with
  | .running _ =>
    { s with rpt := { s.rpt with flush := if s.rpt.notices.isEmpty then .stopped else .flushDue } }
  | _ => s

/-! ## Poll Attention (R184) -/

/-- R184: the highest pending kind is cleared and answered with the number still pending. -/
def requestPoll (s : State) : Answered :=
  match s.highestPending with
  | none => answerDone [0, 0] s
  | some k =>
    let r := { s.rpt with attention := s.rpt.attention.set k.index false }
    answerDone [wordOfNat k.code, wordOfNat r.pendingCount] { s with rpt := r }

end Sys2Proof.Machine
end

