-- ==== Sys2Proof/Machine/Recorder.lean ====
section
/-! DEFINITION. The Recorder (chapter 9): snapshots, captures, record requests and readout. -/

namespace Sys2Proof.Machine

/-! ## Snapshots and the history ring -/

/-- R152: the snapshot of the closed cycle, each value as its owner holds it at the writing. -/
def State.snapshot (s : State) : Snapshot where
  tag := s.cycleTag
  tref := s.intake.ref.reference
  applied := ⟨s.lim.motor.a.applied, s.lim.motor.b.applied⟩
  iref := ⟨s.lim.motor.a.iref, s.lim.motor.b.iref⟩
  imeas := ⟨s.intake.arm.a.current, s.intake.arm.b.current⟩
  u := ⟨s.reg.a.output, s.reg.b.output⟩
  speed := s.intake.speed.speed
  drive := s.seq.drive
  row := s.row
  limited := ⟨s.lim.motor.a.limited, s.lim.motor.b.limited⟩
  shockClamp := ⟨s.lim.motor.a.clampApplied, s.lim.motor.b.clampApplied⟩
  breakaway := s.lim.breakawayAtRef
  saturated := ⟨s.reg.a.saturated, s.reg.b.saturated⟩
  qArm := ⟨s.intake.arm.a.status.quality, s.intake.arm.b.status.quality⟩
  qSpeed := s.intake.speed.status.quality
  qRef := s.intake.ref.status.quality
  confirmed := s.vib.confirmedSummary
  raw := s.vib.rawSummary
  marker := s.recorder.marker.getD 0

/-- R153: a snapshot joins the tail of the ring; with 1024 held the oldest is removed first. -/
def pushHistory (h : List Snapshot) (p : Snapshot) : List Snapshot :=
  if 1024 ≤ h.length then h.tail ++ [p] else h ++ [p]

/-- The slot that is CAPTURING. -/
def Recorder.capturing (r : Recorder) : Option (Fin 8) :=
  (List.finRange 8).find? fun k => r.slots[k].state == .capturing

def Recorder.setSlot (r : Recorder) (k : Fin 8) (x : RecordSlot) : Recorder := { r with slots := r.slots.set k x }

/-- The raise of RECORD_DONE for slot `k` (R158, R159). -/
def recordDoneRaise (k : Fin 8) : Raise := ⟨.recordDone, 0, .nobody, k.val⟩

/-- R158: a CAPTURING slot after a snapshot has been appended; COMPLETE when its post count reaches post_depth. -/
def RecordSlot.appended (t : RecordSlot) (p : Snapshot) (postDepth : Nat) : RecordSlot :=
  { t with
    body := t.body ++ [p]
    header := { t.header with post := t.header.post + 1 }
    state := if postDepth ≤ t.header.post + 1 then .complete else .capturing }

/-- R158: the snapshot goes to the capture in progress, if there is one. -/
def State.appendToCapture (p : Snapshot) (postDepth : Nat) (s : State) : State :=
  match s.recorder.capturing with
  | none => s
  | some k =>
    let x := s.recorder.slots[k].appended p postDepth
    let t : State := { s with recorder := s.recorder.setSlot k x }
    if x.state = .complete then t.raiseAttention (recordDoneRaise k) else t

/-- R151: the snapshot of the closed cycle, written at a mark that closes an open cycle while a bank is active. -/
def State.writeSnapshot (s : State) : State :=
  match s.intake.cycle, s.sched.active with
  | some _, some b =>
    let p := s.snapshot
    let t : State := { s with recorder := { s.recorder with
        history := pushHistory s.recorder.history p
        marker := none } }
    t.appendToCapture p b.dc.g3.postDepth
  | _, _ => s

/-! ## Capture -/

/-- R156, second choice: the lower record sequence number, the lower slot among equals. -/
def Recorder.older (r : Recorder) (best : Option (Fin 8)) (k : Fin 8) : Option (Fin 8) :=
  if (r.slots[k].state == .complete || r.slots[k].state == .truncated) && !r.slots[k].locked && !r.slots[k].pinned then
    match best with
    | none => some k
    | some j => if r.slots[k].header.seq < r.slots[j].header.seq then some k else some j
  else best

/-- R156: the slot for a new record. A locked or pinned slot is never chosen. -/
def Recorder.chooseSlot (r : Recorder) : Option (Fin 8) :=
  match (List.finRange 8).find? fun k =>
      r.slots[k].state == .empty && !r.slots[k].locked && !r.slots[k].pinned with
  | some k => some k
  | none => (List.finRange 8).foldl r.older none

/-- R157: the newest `n` snapshots of the ring, oldest first. -/
def newest (n : Nat) (h : List Snapshot) : List Snapshot := h.drop (h.length - n)

/-- R155, R157: the header written at capture start. -/
def State.captureHeader (first : CauseRecord) (seq pre : Nat) (s : State) : Header where
  seq := seq
  causeCode := first.cause.code
  who := first.who
  detail := first.detail
  tripTag := s.cycleTag
  drive := s.seq.drive
  row := s.row.val
  generation := s.sched.generation
  lmotEff := ⟨s.lim.motor.a.lmotEff, s.lim.motor.b.lmotEff⟩
  lgenEff := ⟨s.lim.motor.a.lgenEff, s.lim.motor.b.lgenEff⟩
  lastMs := map4 (fun ch => ch.lastMs) s.vib.channels
  confirmed := s.vib.confirmedSummary
  later := []
  dropped := 0
  pre := pre
  post := 0

/-- R157, R158, R159: the record state a capture starts with: COMPLETE with post_depth 0, TRUNCATED when the first cause is
CYCLE_LOST, else CAPTURING. -/
def startState (postDepth : Nat) (c : Cause) : RecordState :=
  if postDepth = 0 then .complete else if c = .cycleLost then .truncated else .capturing

/-- R156, R157: what the Recorder does at a declaration, from the values standing at the raise, and what it raises. -/
def State.startCapture (first : CauseRecord) (s : State) : Recorder × List Raise :=
  match s.recorder.chooseSlot, s.sched.active with
  | some k, some b =>
    let seq := min 4294967295 (s.recorder.seqCounter + 1)
    let body := newest (min b.dc.g3.preDepth s.recorder.history.length) s.recorder.history
    let st := startState b.dc.g3.postDepth first.cause
    let x : RecordSlot :=
      { state := st
        locked := b.dc.g3.lockSet.getLsbD (first.cause.code - 1)
        pinned := false
        header := s.captureHeader first seq body.length
        body := body }
    ({ s.recorder.setSlot k x with seqCounter := seq, currentSlot := some k },
      if st = .capturing then [] else [recordDoneRaise k])
  | _, _ => ({ s.recorder with currentSlot := none }, [⟨.recordNotKept, 0, .nobody, first.cause.code⟩])

/-- R158: the header of the record of the trip now declared, changed; nothing while there is no current trip slot. -/
def State.updateTripHeader (g : Header → Header) (s : State) : State :=
  match s.recorder.currentSlot with
  | none => s
  | some k =>
    if s.recorder.slots[k].state = .empty then s
    else
      let x := s.recorder.slots[k]
      { s with recorder := s.recorder.setSlot k { x with header := g x.header } }

/-- R146, R158: a later cause's entry goes into the record header. -/
def State.recordLater (c : Cause) (age : Nat) : State → State :=
  State.updateTripHeader fun h => { h with later := h.later ++ [(c.code, age)] }

/-- R146, R158: the new dropped count goes into the record header. -/
def State.recordDropped (n : Nat) : State → State := State.updateTripHeader fun h => { h with dropped := n }

/-- R159: a raise of CYCLE_LOST ends a capture in progress TRUNCATED and raises RECORD_DONE. -/
def State.truncateCapture (s : State) : State :=
  match s.recorder.capturing with
  | none => s
  | some k =>
    let x := s.recorder.slots[k]
    ({ s with recorder := s.recorder.setSlot k { x with state := .truncated } } : State).raiseAttention
      (recordDoneRaise k)

/-! ## Record requests (section 9.5) -/

/-- The slot a request names, 0 to 7. -/
def slotNumber (w : Word) : Option (Fin 8) := if h : w.toNat < 8 then some ⟨w.toNat, h⟩ else none

/-- R154: Annotate. -/
def requestAnnotate (code : Word) (s : State) : Answered :=
  if code.toNat = 0 ∨ 255 < code.toNat then refuse .badArgument s
  else
    answerDone [wordOfBool s.recorder.marker.isSome]
      { s with recorder := { s.recorder with marker := some code.toNat } }

/-- R160: Read Record Header. -/
def requestReadHeader (slot : Word) (s : State) : Answered :=
  match slotNumber slot with
  | none => refuse .badArgument s
  | some k =>
    let x := s.recorder.slots[k]
    if x.state = .empty then refuse .notFound s else answerDone (x.headerWords ++ [wordOfBool x.pinned]) s

/-- R161: the locked flag of an occupied slot is written. -/
def writeLock (locked : Bool) (slot : Word) (s : State) : Answered :=
  match slotNumber slot with
  | none => refuse .badArgument s
  | some k =>
    let x := s.recorder.slots[k]
    if x.state = .empty then refuse .notFound s
    else answerDone [] { s with recorder := s.recorder.setSlot k { x with locked := locked } }

/-- R161: Lock Record needs OPERATE level. -/
def requestLock (slot : Word) (s : State) : Answered := writeLock true slot s

/-- R161: Unlock Record needs COMMISSION level. -/
def requestUnlock (a : Asker) (slot : Word) (s : State) : Answered :=
  if a.level = .operate then refuse .refusedAccess s else writeLock false slot s

/-- R162: Erase Records empties a slot that is occupied, not locked, not pinned and not CAPTURING. -/
def RecordSlot.erasable (x : RecordSlot) : Bool :=
  (x.state == .complete || x.state == .truncated) && !x.locked && !x.pinned

/-- R162: Erase Records. -/
def requestErase (a : Asker) (s : State) : Answered :=
  if a.level = .operate then refuse .refusedAccess s
  else
    let r := s.recorder
    let current := match r.currentSlot with
      | some k => if r.slots[k].erasable then none else some k
      | none => none
    answerDone [wordOfNat (r.slots.toList.countP RecordSlot.erasable)]
      { s with recorder := { r with
          slots := map8 (fun x => if x.erasable then RecordSlot.emptied else x) r.slots
          currentSlot := current } }

/-- R163: Read Record. -/
def requestReadRecord (a : Asker) (slot first count : Word) (s : State) : Answered :=
  match slotNumber slot with
  | none => refuse .badArgument s
  | some k =>
    let x := s.recorder.slots[k]
    if 511 < first.toNat ∨ count.toNat < 1 ∨ 512 < count.toNat then refuse .badArgument s
    else if s.recorder.readout ≠ .idle then refuse .busy s
    else if x.state = .empty then refuse .notFound s
    else if x.state = .capturing then refuse .refusedState s
    else if x.header.pre + x.header.post < first.toNat + count.toNat then refuse .badArgument s
    else
      let seg := match s.sched.active with
        | none => 4
        | some b => b.dc.g3.segmentSize
      let rd : ReadoutData := ⟨a.manager, a.addr, k, first.toNat, count.toNat, 0, false, seg⟩
      answerDone (wordsOfNat32 x.header.seq)
        { s with recorder := { s.recorder.setSlot k { x with pinned := true } with readout := .sending rd } }

/-- R166: Abort Readout, taken while the sender's Read Record is in progress. -/
def requestAbort (a : Asker) (s : State) : Answered :=
  match s.recorder.readout with
  | .idle => refuse .refusedState s
  | .sending r =>
    if r.addr = a.addr then
      answerDone [] { s with recorder := { s.recorder with readout := .closing { r with aborted := true } } }
    else refuse .refusedState s
  | .closing r =>
    if r.addr = a.addr then
      answerDone [] { s with recorder := { s.recorder with readout := .closing { r with aborted := true } } }
    else refuse .refusedState s

/-! ## Readout frames (section 9.6) -/

/-- R164, R192: the payload of a record data frame. -/
def segmentPayload (x : RecordSlot) (r : ReadoutData) (n : Nat) : List Word :=
  [wordOfNat r.slot.val] ++ wordsOfNat32 x.header.seq ++ [wordOfNat r.next, wordOfNat n] ++
  ((x.body.drop r.next).take n).flatMap Snapshot.words

/-- R164: the readout after a segment of `n` snapshots. -/
def ReadoutData.advanced (r : ReadoutData) (n : Nat) : ReadoutData :=
  { r with next := r.next + n, remaining := r.remaining - n, sent := r.sent + n }

/-- R164: the next segment is produced when the readout is SENDING and the Recorder may take a place. -/
def State.sendSegment (s : State) : State :=
  match s.recorder.readout with
  | .sending r =>
    if s.mayTake .record then
      let n := min r.segSize r.remaining
      let f := s.ownFrame r.addr kindRecordData (segmentPayload s.recorder.slots[r.slot] r n)
      let next := if r.remaining - n = 0 then Readout.closing (r.advanced n) else Readout.sending (r.advanced n)
      (({ s with recorder := { s.recorder with readout := next } } : State).joinQueue f).tookPlace .record
    else s
  | _ => s

/-- R165, R192: the payload of a record end frame. -/
def recordEndPayload (x : RecordSlot) (r : ReadoutData) : List Word :=
  [wordOfNat r.slot.val] ++ wordsOfNat32 x.header.seq ++ [wordOfBool r.aborted, wordOfNat r.sent]

/-- R165: the readout ends: the slot is unpinned, the readout IDLE, the reading manager's holder FREE. -/
def State.endReadout (r : ReadoutData) (s : State) : State :=
  let x := s.recorder.slots[r.slot]
  let q := s.rqh.get r.manager
  { s with
    recorder := { s.recorder.setSlot r.slot { x with pinned := false } with readout := .idle }
    rqh := s.rqh.set r.manager { q with holder := { q.holder with state := .free } } }

/-- R165: the record end frame is produced when the readout is CLOSING and the Recorder may take a place. -/
def State.sendRecordEnd (s : State) : State :=
  match s.recorder.readout with
  | .closing r =>
    if s.mayTake .record then
      let f := s.ownFrame r.addr kindRecordEnd (recordEndPayload s.recorder.slots[r.slot] r)
      ((s.endReadout r).joinQueue f).tookPlace .record
    else s
  | _ => s

/-! ## The record store across resets (R169) -/

/-- R169: a slot kept across a reset: a CAPTURING one ends TRUNCATED, and every pinned flag clears. -/
def RecordSlot.survived (x : RecordSlot) : RecordSlot :=
  { x with
    pinned := false
    state := if x.state = .capturing then .truncated else x.state }

/-- R169: the Recorder after hardware reset, Restart, and power-on with BKUP_GOOD high. -/
def Recorder.retained (r : Recorder) : Recorder :=
  { Recorder.initial with
    slots := map8 RecordSlot.survived r.slots
    seqCounter := r.seqCounter }

end Sys2Proof.Machine
end

