-- ==== Sys2Proof/Machine/TripUnit.lean ====
section
/-! DEFINITION. The Trip Unit (chapter 8): what one raise does, trip declaration, later causes, the Trip request and
Acknowledge Trip. -/

namespace Sys2Proof.Machine

/-- The raise of the TRIP attention naming a cause (R144, R146). -/
def tripRaise (r : CauseRecord) : Raise := ⟨.trip, r.cause.code, r.who, r.detail⟩

/-- R143: a cause reported under its report kind. -/
def State.reportCause (r : CauseRecord) (s : State) : State :=
  s.raiseAttention ⟨r.cause.reportKind, r.cause.code, r.who, r.detail⟩

/-- R131: STOPPING has ended otherwise than in READY: the pending flag clears and a pending takeover is declined. -/
def State.declinePending (reason : Nat) (s : State) : State :=
  if s.seq.pendingTakeover then
    ({ s with seq := { s.seq with pendingTakeover := false } } : State).produceDecline reason
  else s

/-- R135: the Drive Sequencer makes the state TRIPPED. -/
def State.enterTripped (s : State) : State :=
  let t := s.setDrive .tripped
  ({ t with seq := { t.seq with stopCount := 0 } } : State).declinePending declineTripped

/-- R138, R144: the Trip Unit's own state at a declaration. -/
def TripUnit.declare (u : TripUnit) (r : CauseRecord) (tag : Word) : TripUnit :=
  { u with
    declared := true
    first := some r
    cycleTag := tag
    age := 0
    later := []
    dropped := 0
    standing := u.standing.raised r.cause }

/-- R144: a declaration up to its raises: what the Trip Unit and the blocks it informs hold after it. The Recorder works from
the values standing at the raise. DEDUCED (notes/assumptions/30.md): the trip's cycle tag is that of the cycle open at the raise, so a
trip declared by the deadline expiry that an accepted mark carries out in its close (R13, step 1) has the tag of the cycle that
closes, not the mark's. -/
def State.declaredCore (r : CauseRecord) (s : State) : State :=
  let t : State := { s with tru := s.tru.declare r s.cycleTag, recorder := (s.startCapture r).1 }
  let t := if s.seq.drive.isRunning then t.enterTripped.leaveRunning else t.enterTripped
  (t.abandonBreakaway.endPin).answerActivation .cancelled

/-- R144: a trip is declared. The TRIP raise and the Recorder's own raise have no order between them. -/
def State.declareTrip (r : CauseRecord) (s : State) : State :=
  match (s.startCapture r).2 with
  | [] => (s.declaredCore r).raiseAttention (tripRaise r)
  | x :: xs =>
    inEitherOrder (State.raiseAttention (tripRaise r)) (State.raiseAll (x :: xs)) (s.declaredCore r)

/-- R146: a code that is the first cause or already in the list of later causes. -/
def TripUnit.known (u : TripUnit) (c : Cause) : Bool :=
  (match u.first with
    | some r => r.cause == c
    | none => false) || u.later.any fun e => e.1 == c

/-- R159: a raise of CYCLE_LOST also ends a capture in progress. -/
def State.cycleLostTruncates (c : Cause) (s : State) : State := if c = .cycleLost then s.truncateCapture else s

/-- R146: a TRIP-class cause raised while a trip is declared. -/
def State.laterCause (r : CauseRecord) (s : State) : State :=
  let u := s.tru
  if u.known r.cause then s.cycleLostTruncates r.cause
  else if u.later.length < 4 then
    let t : State := { s with tru := { u with later := u.later ++ [(r.cause, u.age)] } }
    let t := t.recordLater r.cause u.age
    if r.cause = .cycleLost && t.recorder.capturing.isSome then
      inEitherOrder (State.raiseAttention (tripRaise r)) State.truncateCapture t
    else t.raiseAttention (tripRaise r)
  else
    let t : State := { s with tru := { u with dropped := bumpBy 255 1 u.dropped } }
    (t.recordDropped (bumpBy 255 1 u.dropped)).cycleLostTruncates r.cause

/-- R142: what one raise does, by its class, the drive state and whether it is a repeat of a standing level cause (R141). -/
def State.raiseCause (c : Cause) (who : Who) (detail : Int) (s : State) : State :=
  let r : CauseRecord := ⟨c, who, detail⟩
  let again := s.tru.standing.get c
  let t : State := { s with tru := { s.tru with standing := s.tru.standing.raised c } }
  match s.classOf c with
  | .ignore => t
  | .warn => if again then t else t.reportCause r
  | .trip =>
    match s.seq.drive with
    | .tripped => t.laterCause r
    | .blocked => if again then t else t.reportCause r
    | _ => t.declareTrip r

/-- R140: the converter status of a take of ARM_m. -/
def State.takeConverterStatus (m : Motor) (fault : Nat) (s : State) : State :=
  if fault = 0 then { s with tru := { s.tru with converterFault := s.tru.converterFault.set m none } }
  else
    ({ s with tru := { s.tru with converterFault := s.tru.converterFault.set m (some fault) } } : State).raiseCause
      (.converter m) (.motor m) fault

/-- R138, R141: the Trip Unit at an accepted mark, in the new cycle: the trip age rises while a trip is declared, and the
standing flags whose condition no longer stands clear. -/
def State.tripMark (s : State) : State :=
  { s with tru := { s.tru with
      age := if s.tru.declared then bump s.tru.age else s.tru.age
      standing := s.survivingFlags } }

/-! ## Requests -/

/-- The outcomes of the Trip request (R193). -/
def State.tripOutcome (s : State) : Nat :=
  match s.seq.drive with
  | .blocked => 4
  | .tripped => if s.tru.known .external then 2 else if s.tru.later.length < 4 then 1 else 3
  | _ => 0

/-- R147: the Trip request raises EXTERNAL with the sender's detail value and no motor. -/
def requestTrip (detail : Word) (s : State) : Answered :=
  (s.raiseCause .external .nobody detail.toNat, some (.done, [wordOfNat s.tripOutcome]))

/-- R149: the Trip Unit after an acknowledgement: standing flags and converter fault conditions are kept. -/
def TripUnit.acknowledged (u : TripUnit) : TripUnit :=
  { TripUnit.initial with
    converterFault := u.converterFault
    standing := u.standing }

/-- R148: the record slot capturing this trip is CAPTURING. -/
def Recorder.tripCapturing (r : Recorder) : Bool :=
  match r.currentSlot with
  | some k => r.slots[k].state == .capturing
  | none => false

/-- R148, R149: Acknowledge Trip. -/
def requestAcknowledge (a : Asker) (s : State) : Answered :=
  if a.manager = .serviceStation ∧ a.level = .operate then refuse .refusedAccess s
  else if s.seq.drive ≠ .tripped then refuse .refusedState s
  else if s.recorder.tripCapturing then refuse .busy s
  else
    match s.lowestStanding with
    | some c => (s, some (.refusedState, [wordOfNat c.code]))
    | none =>
      let d := if s.seq.grant = .none then DriveState.blocked else DriveState.auxiliary
      let t : State := { s with
        tru := s.tru.acknowledged
        recorder := { s.recorder with currentSlot := none } }
      answerDone [wordOfNat d.code] (t.setDrive d)

end Sys2Proof.Machine
end

