-- ==== Sys2Proof/Machine/Vibration.lean ====
section
/-! DEFINITION. The Vibration Watch (chapter 6): channel engines, window close, confirmation, ceilings. -/

namespace Sys2Proof.Machine

def State.channel (s : State) (k : Fin 4) : Channel := s.vib.channels[k]

def State.setChannel (k : Fin 4) (x : Channel) (s : State) : State :=
  { s with vib := { s.vib with channels := s.vib.channels.set k x } }

/-- Every channel replaced by what `f` makes of it. -/
def State.mapChannels (f : Fin 4 → Channel → Channel) (s : State) : State :=
  let v := s.vib.channels
  { s with vib := { s.vib with channels := #v[f 0 v[0], f 1 v[1], f 2 v[2], f 3 v[3]] } }

/-! ## Ceilings (R107) -/

/-- R107: derate_level while a channel assigned to pinion `m` is in confirmed ALARM, and 12288 otherwise. -/
def ceilingOf (b : Bank) (channels : Vector Channel 4) (m : Motor) : Nat :=
  if (List.finRange 4).any fun k => b.dc.g2.pinion[k] == m && channels[k].conf.state == .alarm then
    b.dc.g2.derateLevel
  else 12288

/-- R107: both ceilings are re-formed. -/
def State.reformCeilings (s : State) : State :=
  match s.sched.active with
  | none => { s with vib := { s.vib with ceiling := PerMotor.both 12288 } }
  | some b =>
    { s with vib := { s.vib with ceiling := ⟨ceilingOf b s.vib.channels .a, ceilingOf b s.vib.channels .b⟩ } }

/-- R107: the ceiling of one pinion is re-formed. -/
def State.reformCeiling (b : Bank) (m : Motor) (s : State) : State :=
  { s with vib := { s.vib with ceiling := s.vib.ceiling.set m (ceilingOf b s.vib.channels m) } }

/-! ## Confirmation (section 6.5) -/

/-- What one compared window raises. -/
inductive VibEvent where
  | alarmEntry
  | warningEntry
  | deadEntry
  | persists
deriving DecidableEq, Repr

/-- R100: the raw result of a compared window. -/
def compareWindow (g : Group2) (cell : VibCell) (ms : Nat) (d : DriveState) (row : Fin 32) : RawResult :=
  if cell.alarmHi ≤ ms then .aboveAlarm
  else if cell.warnHi ≤ ms then .aboveWarn
  else if ms < cell.deadLo ∧ d = .running ∧ g.minDeadRow ≤ row.val then .belowDead
  else .normal

/-- R101: the release level of a window. -/
def releaseLevel (g : Group2) (cell : VibCell) : Nat := cell.warnHi - cell.warnHi * g.hysteresis / 256

/-- A confirmation counter: one more, stopping at 255, or 0. -/
def countIf (p : Bool) (n : Nat) : Nat := if p then bumpBy 255 1 n else 0

/-- R101, and R105's clearing of persist raised by a window below alarm_hi. -/
def Confirmation.counted (c : Confirmation) (raw : RawResult) (ms level : Nat) : Confirmation :=
  let up := c.state == .warning || c.state == .alarm
  { c with
    alarm := countIf (raw == .aboveAlarm) c.alarm
    warn := countIf (raw == .aboveWarn || raw == .aboveAlarm) c.warn
    release := countIf (up && ms < level) c.release
    dead := countIf (raw == .belowDead) c.dead
    persist := countIf (c.state == .alarm && raw == .aboveAlarm) c.persist
    persistRaised := c.persistRaised && raw == .aboveAlarm }

/-- R102: entry to ALARM, else entry to WARNING. -/
def Confirmation.entered (c : Confirmation) (g : Group2) : Confirmation × List VibEvent :=
  if (c.state = .normal ∨ c.state = .warning) ∧ g.confirmWindows ≤ c.alarm then
    ({ c with state := .alarm, release := 0, persist := 0, persistRaised := false }, [.alarmEntry])
  else if c.state = .normal ∧ g.confirmWindows ≤ c.warn then
    ({ c with state := .warning, release := 0 }, [.warningEntry])
  else (c, [])

/-- R103: release to NORMAL, with the vibration latch clear. -/
def Confirmation.released (c : Confirmation) (g : Group2) : Confirmation :=
  if (c.state = .warning ∨ c.state = .alarm) ∧ g.vibLatch = false ∧ g.releaseWindows ≤ c.release then
    { c with state := .normal, alarm := 0, warn := 0, release := 0, persist := 0, persistRaised := false }
  else c

/-- R104: entry to DEAD from NORMAL. -/
def Confirmation.died (c : Confirmation) (g : Group2) : Confirmation × List VibEvent :=
  if c.state = .normal ∧ g.deadWindows ≤ c.dead then
    ({ c with state := .dead, alarm := 0, warn := 0, release := 0, persist := 0 }, [.deadEntry])
  else (c, [])

/-- R105: persistence in ALARM. -/
def Confirmation.persisted (c : Confirmation) (g : Group2) : Confirmation × List VibEvent :=
  if c.state = .alarm ∧ 0 < g.persistWindows ∧ c.persistRaised = false ∧ g.persistWindows ≤ c.persist then
    ({ c with persistRaised := true }, [.persists])
  else (c, [])

/-- R101 to R103, R104 (entry) and R105 for a channel in NORMAL, WARNING or ALARM. -/
def Confirmation.stepLive (c : Confirmation) (g : Group2) (raw : RawResult) (ms level : Nat) :
    Confirmation × List VibEvent :=
  let e := (c.counted raw ms level).entered g
  let d := (e.1.released g).died g
  let p := d.1.persisted g
  (p.1, e.2 ++ d.2 ++ p.2)

/-- R104: a compared window of a DEAD channel. -/
def Confirmation.stepDead (c : Confirmation) (g : Group2) (cell : VibCell) (raw : RawResult) (ms level : Nat) :
    Confirmation × List VibEvent :=
  let z : Confirmation :=
    { c with alarm := 0, warn := 0, release := 0, persist := 0, dead := countIf (raw == .belowDead) c.dead }
  if cell.deadLo ≤ ms then
    let e := (({ z with state := .normal } : Confirmation).counted raw ms level).entered g
    (e.1.released g, e.2)
  else (z, [])

/-- What a compared window does to the confirmation, and what it raises, in the order of R102 to R105. -/
def Confirmation.step (c : Confirmation) (g : Group2) (cell : VibCell) (raw : RawResult) (ms : Nat) :
    Confirmation × List VibEvent :=
  let level := releaseLevel g cell
  if c.state = .dead then c.stepDead g cell raw ms level else c.stepLive g raw ms level

/-- R106: what a window raises carries the channel and the window peak. -/
def State.raiseVibEvent (k : Fin 4) (peak : Nat) (s : State) : VibEvent → State
  | .alarmEntry => s.raiseAttention ⟨.vibAlarm, 0, .channel k, peak⟩
  | .warningEntry => s.raiseAttention ⟨.vibWarning, 0, .channel k, peak⟩
  | .deadEntry => s.raiseCause .sensorDead (.channel k) peak
  | .persists => s.raiseCause .vibPersist (.channel k) peak

/-! ## Window close (R99, R100) -/

/-- R99: a VOID window. -/
def Channel.closedVoid (x : Channel) : Channel :=
  { x with raw := .void, voidWindows := bump x.voidWindows, window := Window.empty }

/-- R99: a window with enough samples: its mean square and peak become the last ones. -/
def Channel.closedFull (x : Channel) (raw : RawResult) : Channel :=
  { x with
    raw := raw
    lastMs := x.window.sum / x.window.n
    lastPeak := x.window.peak
    lastSector := x.window.sector
    window := Window.empty }

/-- R99: a window is VOID with fewer samples than half its blocks', or with none. -/
def Window.isVoid (w : Window) (vibWindow : Nat) : Bool := w.n < vibWindow * 4 || w.n == 0

/-- R99 to R107: the open window of channel `k` closes. -/
def State.closeWindow (b : Bank) (k : Fin 4) (s : State) : State :=
  let x := s.channel k
  let g := b.dc.g2
  if x.window.isVoid g.vibWindow then s.setChannel k x.closedVoid
  else if s.seq.drive.isRunning then
    let ms := x.window.sum / x.window.n
    let cell := b.vib[s.row][k]
    let raw := compareWindow g cell ms s.seq.drive s.row
    let r := x.conf.step g cell raw ms
    let t := s.setChannel k { x.closedFull raw with conf := r.1 }
    let t := if (x.conf.state == .alarm) != (r.1.state == .alarm) then t.reformCeiling b g.pinion[k] else t
    r.2.foldl (fun t e => t.raiseVibEvent k x.window.peak e) t
  else s.setChannel k (x.closedFull .notCompared)

/-! ## Blocks (R95 to R98) -/

/-- R95: the gap of a block with sequence `q`, 0 with the last sequence absent. -/
def Channel.gap (x : Channel) (q : Nat) : Nat :=
  match x.lastSeq with
  | none => 0
  | some p => (q + 255 - p) % 256

/-- R97: the deviation of a sample and the tracker after it. -/
def trackSample (m : Option Int) (sample : Int) : Int × Int :=
  match m with
  | none => (0, 64 * sample)
  | some m =>
    let d := clampInt (sample - floorDiv m 64) 32767
    (d, m + d)

/-- R98: a deviation joins the open window; `sector` is that of the block. -/
def Window.add (w : Window) (d : Int) (sector : Nat) : Window :=
  { w with
    sum := w.sum + d.natAbs * d.natAbs
    n := w.n + 1
    peak := if w.peak < d.natAbs then d.natAbs else w.peak
    sector := if w.peak < d.natAbs then sector else w.sector }

/-- R97, R98: one sample through the tracker and into the window. -/
def Channel.addSample (sector : Nat) (x : Channel) (sample : Int) : Channel :=
  let r := trackSample x.tracker sample
  { x with tracker := some r.2, window := x.window.add r.1 sector }

/-- R96, step 2: a block's samples, and one received block more. -/
def Channel.addBlock (x : Channel) (angle : Nat) (samples : List Int) : Channel :=
  let y := samples.foldl (Channel.addSample (angle / 64)) x
  { y with window := { y.window with received := y.window.received + 1 } }

/-- R96, step 1: `g` lost blocks. -/
def Channel.missBlocks (x : Channel) (g : Nat) : Channel :=
  { x with
    window := { x.window with missed := x.window.missed + g }
    missedBlocks := bumpBy 65535 g x.missedBlocks }

/-- R96: the window closes when received and missed blocks reach vib_window. -/
def State.closeIfFull (b : Bank) (k : Fin 4) (s : State) : State :=
  let w := (s.channel k).window
  if b.dc.g2.vibWindow ≤ w.received + w.missed then s.closeWindow b k else s

/-- R95, R96: a block of channel `k` with sequence `q`, angle at its start and eight conditioned samples. -/
def State.vibrationBlock (k : Fin 4) (q angle : Nat) (samples : List Int) (s : State) : State :=
  match s.sched.active with
  | none => s
  | some b =>
    let x := s.channel k
    let g := x.gap q
    if 127 < g then s.setChannel k { x with oldBlocks := bump x.oldBlocks }
    else
      let t := if 0 < g then (s.setChannel k (x.missBlocks g)).closeIfFull b k else s
      let t := (t.setChannel k ((t.channel k).addBlock angle samples)).closeIfFull b k
      t.setChannel k { t.channel k with lastSeq := some q }

/-! ## Shock discard, clearing, resets -/

/-- R108: a channel's open window is dropped. -/
def Channel.dropWindow (x : Channel) : Channel := { x with window := Window.empty, discarded := bump x.discarded }

/-- R108: a shock event on motor `m` delivered to the Vibration Watch. -/
def State.discardWindows (m : Motor) (s : State) : State :=
  match s.sched.active with
  | none => s
  | some b =>
    s.mapChannels fun k x => if b.dc.g2.pinion[k] == m && b.dc.g2.discardOnShock[k] then x.dropWindow else x

/-- R109: a confirmation returned to its starting point. -/
def Confirmation.cleared : Confirmation := Confirmation.initial

/-- R109: Clear Alarms. -/
def requestClearAlarms (s : State) : Answered :=
  answerDone [] (s.mapChannels fun _ x => { x with conf := Confirmation.cleared }).reformCeilings

/-- R110: the confirmation of a channel after the STOPPING confirmation. -/
def Confirmation.onReady (c : Confirmation) (latch : Bool) : Confirmation :=
  let kept := latch && (c.state == .warning || c.state == .alarm)
  { Confirmation.initial with state := if kept then c.state else .normal }

/-- R110: the reset of the confirmations at the change from a running state to READY. -/
def State.vibrationOnReady (s : State) : State :=
  let latch := match s.sched.active with
    | none => false
    | some b => b.dc.g2.vibLatch
  (s.mapChannels fun _ x => { x with conf := x.conf.onReady latch }).reformCeilings

/-- R112: a channel's engine reset: last sequence and tracker absent, the open window and its peak 0. -/
def Channel.engineReset (x : Channel) : Channel :=
  { x with lastSeq := none, tracker := none, window := Window.empty }

/-- The key of channel `k`'s VIB entry in a bank, or none. -/
def vibKey (b : Option Bank) (k : Fin 4) : Option (Addr × SlotKind × Bool) :=
  (b.bind fun x => x.findRole (.vib k)).map fun e => (e.source, e.kind, e.slot)

/-- R107, R112: the Vibration Watch at a swap from `old` to the bank now active. -/
def State.vibrationSwapped (old : Option Bank) (s : State) : State :=
  (s.mapChannels fun k x => if vibKey old k = vibKey s.sched.active k then x else x.engineReset).reformCeilings

end Sys2Proof.Machine
end

