-- ==== Sys2Proof/Machine/Limiter.lean ====
section
/-! DEFINITION. The Torque Limiter (chapter 4): limits, breakaway, measured torque and shocks, overspeed. -/

namespace Sys2Proof.Machine

/-! ## Limits (R57 to R61) -/

/-- The effective limits of a motor and whether the shock clamp entered them. -/
structure Limits where
  mot : Nat
  gen : Nat
  clamped : Bool
deriving DecidableEq, Repr

/-- R57 to R59: base limits, then the vibration ceiling, then the shock clamp while the hold counter is above zero and no
breakaway allowance runs. -/
def composeLimits (g : Group0) (row : SpeedRow) (breakaway : Bool) (ceiling hold : Nat) : Limits :=
  let mot := min (if breakaway then g.breakawayLimit else row.lmot) ceiling
  let gen := min row.lgen ceiling
  if 0 < hold && !breakaway then ⟨min mot g.shockClamp, min gen g.shockClamp, true⟩ else ⟨mot, gen, false⟩

/-- The limits of motor `m` at a reference event made in state `s` with bank `b`. -/
def State.limitsOf (s : State) (b : Bank) (m : Motor) : Limits :=
  composeLimits b.dc.g0 (s.sched.speedRow b) s.lim.breakaway.isSome (s.vib.ceiling.get m) (s.lim.motor.get m).hold

/-- R60: clamp(T, -Lgen_eff, +Lmot_eff). -/
def Limits.clamp (l : Limits) (t : Int) : Int :=
  if (l.mot : Int) < t then l.mot else if t < -(l.gen : Int) then -(l.gen : Int) else t

/-- R61: truncate(T' × 4096 / flux), clamped to ±Imax. -/
def currentReference (applied : Int) (flux imax : Nat) : Int := clampInt (truncDiv (applied * 4096) flux) imax

/-- R60, R61: what the limiter keeps of motor `m` after a reference event in a running state. -/
def MotorLimits.afterSplit (x : MotorLimits) (l : Limits) (t : Int) (flux imax : Nat) : MotorLimits :=
  { x with
    lmotEff := l.mot
    lgenEff := l.gen
    clampApplied := l.clamped
    applied := l.clamp t
    limited := l.clamp t != t
    iref := currentReference (l.clamp t) flux imax }

/-- R63: what the limiter keeps of motor `m` after a reference event in another state. -/
def MotorLimits.afterIdle (x : MotorLimits) (l : Limits) : MotorLimits :=
  { x with
    lmotEff := l.mot
    lgenEff := l.gen
    clampApplied := l.clamped
    applied := 0
    limited := false
    iref := 0 }

/-- R62: the TORQUE_LIMIT attention of motor `m`, with T - T' as its detail value. -/
def torqueLimitRaise (m : Motor) (t applied : Int) : Raise :=
  ⟨.torqueLimit, 0, .motor m, signedDetail (t - applied)⟩

/-! ## Breakaway (R64 to R67) -/

/-- R64: Start Run or Start Turning taken: an allowance starts when the latched speed is at most standstill_speed. -/
def State.startBreakaway (s : State) : State :=
  match s.sched.active with
  | none => s
  | some b =>
    if s.intake.speed.speed.natAbs ≤ b.dc.g1.standstillSpeed then
      { s with lim := { s.lim with breakaway := some b.dc.g0.breakawayCycles, outcome := .none } }
    else s

/-- R65: a speed sample at or above moving_speed ends a running allowance as achieved. -/
def State.achieveBreakaway (b : Bank) (speed : Int) (s : State) : State :=
  match s.lim.breakaway with
  | none => s
  | some _ =>
    if b.dc.g1.movingSpeed ≤ speed.natAbs then
      { s with lim := { s.lim with breakaway := none, outcome := .achieved } }
    else s

/-- R66: the running allowance whose remaining count the coming mark action brings to 0. -/
def Limiter.breakawayExpiring (l : Limiter) : Bool :=
  match l.breakaway with
  | some n => n ≤ 1
  | none => false

/-- R66: the mark action on a running allowance. -/
def State.countBreakaway (s : State) : State :=
  match s.lim.breakaway with
  | none => s
  | some n =>
    if n ≤ 1 then
      ({ s with lim := { s.lim with breakaway := none, outcome := .expired } } : State).raiseCause .breakawayFailed
        .nobody s.intake.speed.speed
    else { s with lim := { s.lim with breakaway := some (n - 1) } }

/-! ## Mark actions (R71) -/

/-- R71: the hold counter of a motor at an accepted mark; one reloaded in the cycle is not decreased. -/
def MotorLimits.marked (x : MotorLimits) : MotorLimits :=
  { x with
    hold := if x.reloaded then x.hold else x.hold - 1
    reloaded := false
    prevTorque := x.prevTorque.map fun p => { p with age := min 2 (p.age + 1) } }

/-- R71: the shock list at an accepted mark. -/
def ageShocks (window : Nat) (l : List ShockEntry) : List ShockEntry :=
  (l.map fun e => { e with age := e.age + 1 }).filter fun e => e.age ≤ window

/-- R71: the Torque Limiter at an accepted mark, in the new cycle. -/
def State.limiterMark (s : State) : State :=
  let shocks := match s.sched.active with
    | none => s.lim.shocks
    | some b => ageShocks b.dc.g0.shockWindow s.lim.shocks
  ({ s with lim := { s.lim with
      motor := ⟨s.lim.motor.a.marked, s.lim.motor.b.marked⟩
      shocks := shocks } } : State).countBreakaway

/-! ## Measured torque and shocks (R68 to R73) -/

/-- R68: truncate(Imeas × flux / 4096). -/
def measuredTorque (imeas : Int) (flux : Nat) : Int := truncDiv (imeas * flux) 4096

/-- R69: a shock: the previous torque is present, FRESH and of the preceding cycle, the present current is FRESH, and the
step is larger than shock_step. -/
def isShock (prev : Option MeasuredTorque) (tmeas : Int) (q : Quality) (step : Nat) : Bool :=
  match prev with
  | none => false
  | some p => p.quality == .fresh && p.age == 1 && q == .fresh && step < (tmeas - p.value).natAbs

/-- R70: an entry joins the tail of the shock list; with eight held the oldest is removed first. -/
def pushShock (l : List ShockEntry) (e : ShockEntry) : List ShockEntry :=
  if 8 ≤ l.length then l.tail ++ [e] else l ++ [e]

/-- R69: what a shock event of motor `m` with signed step `d` does, in the order the rule gives. -/
def State.shockEvent (b : Bank) (m : Motor) (d : Int) (s : State) : State :=
  let x := s.lim.motor.get m
  let shocks := pushShock s.lim.shocks ⟨m, s.cycleTag, 0⟩
  let t : State := { s with lim := { s.lim with
    shocks := shocks
    motor := s.lim.motor.set m
      { x with hold := b.dc.g0.shockHold, reloaded := true, shockCount := bump x.shockCount } } }
  let t := t.raiseAttention ⟨.shock, 0, .motor m, signedDetail d⟩
  let t := if b.dc.g0.shockTripCount ≤ shocks.length then t.raiseCause .shockRepeat (.motor m) shocks.length else t
  t.discardWindows m

/-- R68: the measured torque of a regulation event made in a running state; `flux` is that of the row in force at it, taken as the
event begins (notes/assumptions/29.md). -/
def State.measureTorque (b : Bank) (m : Motor) (flux : Nat) (s : State) : State :=
  let arm := s.intake.arm.get m
  let tmeas := measuredTorque arm.current flux
  let q := arm.status.quality
  let prev := (s.lim.motor.get m).prevTorque
  let t := if isShock prev tmeas q b.dc.g0.shockStep then
      s.shockEvent b m (tmeas - (prev.map (·.value)).getD 0)
    else s
  let x := t.lim.motor.get m
  { t with lim := { t.lim with motor := t.lim.motor.set m { x with prevTorque := some ⟨tmeas, q, 0⟩ } } }

/-- R68: at a regulation event outside the running states the previous measured torque becomes absent. -/
def State.forgetTorque (m : Motor) (s : State) : State :=
  let x := s.lim.motor.get m
  { s with lim := { s.lim with motor := s.lim.motor.set m { x with prevTorque := none } } }

/-- R74: what entry to RUNNING or TURNING from READY clears of a motor. -/
def MotorLimits.started (x : MotorLimits) : MotorLimits := { x with hold := 0, reloaded := false, prevTorque := none }

/-- R74. -/
def Limiter.started (l : Limiter) : Limiter :=
  { l with shocks := [], motor := ⟨l.motor.a.started, l.motor.b.started⟩ }

/-! ## Overspeed (R75) -/

/-- R75: a speed sample whose magnitude exceeds overspeed. -/
def isOverspeed (b : Bank) (speed : Int) : Bool := b.dc.g0.overspeed < speed.natAbs

/-- R75: OVERSPEED, with the signed speed as its detail value. -/
def State.watchOverspeed (b : Bank) (speed : Int) (s : State) : State :=
  if isOverspeed b speed then s.raiseCause .overspeed .nobody speed else s

end Sys2Proof.Machine
end

