-- ==== Sys2Proof/Machine/Splitter.lean ====
section
/-! DEFINITION. The Torque Splitter (chapter 3) and the reference event it starts and the Torque Limiter finishes. -/

namespace Sys2Proof.Machine

/-- R45: the share accumulator is held. -/
def State.shareHeld (s : State) : Bool :=
  s.split.prevLimited.a || s.split.prevLimited.b || s.intake.arm.a.status.quality != .fresh ||
  s.intake.arm.b.status.quality != .fresh || s.seq.drive == .turning

/-- R46: an updated share accumulator. -/
def updatedShare (acc : Int) (ks trimMax : Nat) (ia ib : Int) : Int := clampInt (acc + ks * (ib - ia)) (256 * trimMax)

/-- R47: trim is truncate(S / 256). -/
def trimOf (acc : Int) : Int := truncDiv acc 256

/-- R48: pinion A's share. -/
def shareA (tref trim : Int) (bias : Nat) : Int := truncDiv tref 2 + trim + bias

/-- R48, R50: contact_bias in TURNING, 0 in the other running states. -/
def biasOf (g : Group0) (d : DriveState) : Nat := if d = .turning then g.contactBias else 0

/-- R51: the imbalance count after an updating event with current difference `diff`. -/
def imbalanceAfter (g : Group0) (count diff : Nat) : Nat :=
  if g.imbalanceLimit < diff then min g.imbalanceCycles (count + 1) else 0

/-- R52: the motor whose current is larger in magnitude, A when they are equal. -/
def largerMotor (ia ib : Int) : Motor := if ia.natAbs < ib.natAbs then .b else .a

/-- R51, R52: the imbalance check of an updating event. -/
def State.checkImbalance (g : Group0) (ia ib : Int) (s : State) : State :=
  let diff := (ia - ib).natAbs
  let count := s.split.imbalanceCount
  let count' := imbalanceAfter g count diff
  let t : State := { s with split := { s.split with imbalanceCount := count' } }
  if count < g.imbalanceCycles ∧ count' = g.imbalanceCycles then
    t.raiseCause .imbalance (.motor (largerMotor ia ib)) diff
  else t

/-- R62: TORQUE_LIMIT for each motor newly limited; the two motors have no order between them (R56). -/
def State.raiseLimits (newA newB : Bool) (a b : Raise) (s : State) : State :=
  match newA, newB with
  | false, false => s
  | true, false => s.raiseAttention a
  | false, true => s.raiseAttention b
  | true, true => inEitherOrder (State.raiseAttention a) (State.raiseAttention b) s

/-- R44 to R52, R56 to R62: a reference event made in a running state. The limiter's inputs are those standing at the moment of
the event, so a trip that the imbalance check declares acts from the next event (R52, R56). -/
def State.splitEvent (b : Bank) (s : State) : State :=
  let g := b.dc.g0
  let ia := s.intake.arm.a.current
  let ib := s.intake.arm.b.current
  let tref := s.intake.ref.reference
  let acc := if s.shareHeld then s.split.acc else updatedShare s.split.acc g.ks g.trimMax ia ib
  let ta := shareA tref (trimOf acc) (biasOf g s.seq.drive)
  let tb := tref - ta
  let t : State := { s with split := { s.split with acc := acc, trim := trimOf acc } }
  let t := if s.shareHeld then t else t.checkImbalance g ia ib
  let row := s.sched.speedRow b
  let la := t.lim.motor.a.afterSplit (s.limitsOf b .a) ta row.flux g.imax
  let lb := t.lim.motor.b.afterSplit (s.limitsOf b .b) tb row.flux g.imax
  let t : State := { t with lim := { t.lim with motor := ⟨la, lb⟩ } }
  let t := t.raiseLimits (la.limited && !s.split.prevLimited.a) (lb.limited && !s.split.prevLimited.b)
    (torqueLimitRaise .a ta la.applied) (torqueLimitRaise .b tb lb.applied)
  { t with split := { t.split with prevLimited := ⟨la.limited, lb.limited⟩, lastSplit := ⟨ta, tb⟩ } }

/-- R53, R63: a reference event made in BLOCKED, READY, AUXILIARY or TRIPPED. -/
def State.idleEvent (b : Bank) (s : State) : State :=
  { s with
    split := { s.split with prevLimited := PerMotor.both false, lastSplit := PerMotor.both 0 }
    lim := { s.lim with motor :=
      ⟨s.lim.motor.a.afterIdle (s.limitsOf b .a), s.lim.motor.b.afterIdle (s.limitsOf b .b)⟩ } }

/-- R16, R44: the once-per-cycle reference event; the drive state in force at it decides what it does. -/
def State.referenceEvent (s : State) : State :=
  match s.sched.active with
  | none => s
  | some b =>
    let t : State := { s with
      intake := { s.intake with refMade := true }
      lim := { s.lim with breakawayAtRef := s.lim.breakaway.isSome } }
    if s.seq.drive.isRunning then t.splitEvent b else t.idleEvent b

/-- R49, R51: what entry to RUNNING or TURNING from READY clears. -/
def Splitter.started (p : Splitter) : Splitter := { p with prevLimited := PerMotor.both false, imbalanceCount := 0 }

/-- R36, R54: the share accumulator at a swap. -/
def Splitter.swapped (p : Splitter) (b : Bank) : Splitter :=
  let acc := clampInt p.acc (256 * b.dc.g0.trimMax)
  { p with acc := acc, trim := trimOf acc }

end Sys2Proof.Machine
end

