-- ==== Sys2Proof/Machine/Regulator.lean ====
section
/-! DEFINITION. The Armature Regulators (chapter 5): the regulation event and what follows it in the cycle. -/

namespace Sys2Proof.Machine

/-- R79: the current error, saturated to ±32767. -/
def currentError (iref imeas : Int) : Int := clampInt (iref - imeas) 32767

/-- R79: the proportional term. -/
def proportional (kp : Nat) (e : Int) : Int := truncDiv (kp * e) 256

/-- R80: integration is held when the candidate output passes Vlim in the error's direction. -/
def integrationHeld (u e : Int) (vlim : Nat) : Bool :=
  vlim < u.natAbs && ((0 < e && 0 < u) || (e < 0 && u < 0))

/-- R79 to R82: what one regulating event forms. -/
structure Regulated where
  acc : Int
  output : Int
  flagged : Bool
deriving DecidableEq, Repr

/-- R79 to R82. -/
def regulateLoop (acc : Int) (kp ki vlim : Nat) (iref imeas : Int) : Regulated :=
  let e := currentError iref imeas
  let p := proportional kp e
  let cand := acc + ki * e
  let held := integrationHeld (p + truncDiv cand 256) e vlim
  let acc' := if held then acc else clampInt cand (256 * vlim)
  let out := p + truncDiv acc' 256
  let u := clampInt out vlim
  { acc := acc', output := u, flagged := held || acc' != (if held then acc else cand) || u != out }

/-- R83: the saturation count after an event. -/
def satCountAfter (flagged : Bool) (n : Nat) : Nat := if flagged then bumpBy 1000 1 n else 0

/-- R83: the event raises SATURATION_m. -/
def raisesSaturation (r : Regulator) (flagged : Bool) (limit : Nat) : Bool :=
  flagged && limit ≤ satCountAfter flagged r.satCount && !r.satRaised

/-- R82, R83: the regulator after a regulating event. -/
def Regulator.regulated (r : Regulator) (x : Regulated) (limit : Nat) : Regulator :=
  { r with
    acc := x.acc
    output := x.output
    saturated := x.flagged
    satCount := satCountAfter x.flagged r.satCount
    satRaised := x.flagged && (r.satRaised || raisesSaturation r x.flagged limit) }

/-- R89: the regulator after an event that does not regulate. -/
def Regulator.unregulated (r : Regulator) : Regulator :=
  { r with output := 0, saturated := false, satCount := 0, satRaised := false }

/-- R84: the overcurrent test of an event, made when ARM_m was taken in the present cycle. -/
def State.testOvercurrent (b : Bank) (m : Motor) (s : State) : State :=
  let arm := s.intake.arm.get m
  if arm.status.taken then
    let above : Bool := b.dc.g0.iTrip < arm.current.natAbs
    let t : State := { s with reg := s.reg.set m { s.reg.get m with overcurrent := above } }
    if above then t.raiseCause (.overcurrent m) (.motor m) arm.current else t
  else s

/-- R85, R185: the event reports to the Reporter, which produces the echo at the report that completes the pair. -/
def State.reportRegulation (m : Motor) (s : State) : State :=
  let t : State := { s with intake := { s.intake with regMade := s.intake.regMade.set m true } }
  if t.intake.regMade.a && t.intake.regMade.b then t.produceEcho else t

/-- R86: the drive frame of a regulating event. A trip that R83's cause declared has left the running states before the frame
is produced; whether the event then still produces a frame, with block as R88's law asks, is a free choice. -/
def State.eventFrame (m : Motor) (u : Int) (field : Nat) (s : State) : State :=
  if s.seq.drive.isRunning then s.produceDrive m true u field
  else if s.coin then s.drawn.produceDrive m false 0 s.blockField else s.drawn

/-- R78 to R86: a regulating event up to its drive frame. -/
def State.regulate (b : Bank) (m : Motor) (s : State) : State :=
  let row := s.sched.speedRow b
  let r := s.reg.get m
  let x := regulateLoop r.acc row.kp row.ki b.dc.g0.vlim (s.lim.motor.get m).iref (s.intake.arm.get m).current
  let t : State := { s with reg := s.reg.set m (r.regulated x b.dc.g0.satLimit) }
  let t := if raisesSaturation r x.flagged b.dc.g0.satLimit then
      t.raiseCause (.saturation m) (.motor m) x.output
    else t
  t.eventFrame m x.output row.fieldRef

/-- R78, R85, R89: the regulation event of motor `m`, in the drive state and with the row in force at it. DEDUCED
(notes/assumptions/29.md): where a trip declared within the event, by SATURATION_m or OVERCURRENT_m, ends a row pin, the measured
torque of step 3 is still formed with the flux of the row in force as the event began. -/
def State.regulationEvent (m : Motor) (s : State) : State :=
  match s.sched.active with
  | none => s
  | some b =>
    if s.seq.drive.isRunning then
      let flux := (s.sched.speedRow b).flux
      (((s.regulate b m).testOvercurrent b m).measureTorque b m flux).reportRegulation m
    else
      let t : State := { s with reg := s.reg.set m (s.reg.get m).unregulated }
      ((t.testOvercurrent b m).forgetTorque m).reportRegulation m

/-- The regulation event of motor `m`, when `due`. -/
def State.regulateIf (due : Bool) (m : Motor) (s : State) : State := if due then s.regulationEvent m else s

/-- R16, R17: the regulation events that are due; those of A and B have no order between them. -/
def State.regulateDue (dueA dueB : Bool) (s : State) : State :=
  match dueA, dueB with
  | true, true => inEitherOrder (State.regulationEvent .a) (State.regulationEvent .b) s
  | _, _ => (s.regulateIf dueA .a).regulateIf dueB .b

/-- R87: at an accepted mark in BLOCKED, READY, AUXILIARY or TRIPPED each regulator produces a block frame. -/
def State.markDriveFrames (s : State) : State := if s.seq.drive.isRunning then s else s.produceBlocks

/-- R90: what entry to RUNNING or TURNING from READY clears of a regulator. -/
def Regulator.started (r : Regulator) : Regulator :=
  { r with acc := 0, saturated := false, satCount := 0, satRaised := false }

/-- R36, R92: the integrator accumulator at a swap. -/
def Regulator.swapped (r : Regulator) (b : Bank) : Regulator := { r with acc := clampInt r.acc (256 * b.dc.g0.vlim) }

end Sys2Proof.Machine
end

