-- ==== Sys2Proof/Machine/Sequencer.lean ====
section
/-! DEFINITION. The Drive Sequencer (chapter 7): run-control requests, the speed sample's angle and stop count, the
hot-stop schedule, the auxiliary drive. -/

namespace Sys2Proof.Machine

/-! ## Changes of drive state (R115) -/

/-- R19: at a change to RUNNING, TURNING or STOPPING the Intake raises CYCLE_LOST if a mark-loss condition stands. -/
def State.raiseMarkLoss (s : State) : State :=
  if s.intake.markLoss then s.raiseCause .cycleLost .nobody 0 else s

/-- R115: the Torque Splitter, Torque Limiter and regulators informed of an entry from READY (R49, R51, R74, R90). -/
def State.informEntry (s : State) : State :=
  { s with
    split := s.split.started
    lim := s.lim.started
    reg := ⟨s.reg.a.started, s.reg.b.started⟩ }

/-- A request of the drive master alone, allowed in some states (R116). -/
def runControl (a : Asker) (allowed : Bool) (act : State → Answered) (s : State) : Answered :=
  if a.manager ≠ .driveMaster then refuse .refusedAccess s
  else if allowed then act s
  else refuse .refusedState s

/-- R116: the response reports the new state. Where CYCLE_LOST, raised at the entry, has tripped the drive at once, which of the
two states it reports is a free choice. -/
def answerNewState (d : DriveState) (s : State) : Answered :=
  if s.seq.drive = d then answerDone [wordOfNat d.code] s
  else answerDone [wordOfNat (eitherValue s d s.seq.drive).code] s.drawn

/-- R116: Enable. -/
def requestEnable (a : Asker) (s : State) : Answered :=
  runControl a (s.seq.drive == .blocked && s.sched.active.isSome && !s.tru.declared)
    (fun t => answerNewState .ready (t.setDrive .ready)) s

/-- R116: Disable. -/
def requestDisable (a : Asker) (s : State) : Answered :=
  runControl a (s.seq.drive == .ready) (fun t => answerNewState .blocked (t.setDrive .blocked)) s

/-- R117: Start Run taken. -/
def State.startRun (s : State) : State :=
  let t := s.setDrive .running
  let t : State := { t with seq := { t.seq with turnComplete := false, stopCount := 0 } }
  let t := if s.seq.drive = .ready then t.informEntry else t
  (t.startBreakaway.declinePending declineRunning).raiseMarkLoss

/-- R116, R117: Start Run. -/
def requestStartRun (a : Asker) (s : State) : Answered :=
  runControl a (s.seq.drive == .ready || s.seq.drive == .stopping) (fun t => answerNewState .running t.startRun) s

/-- R118: Start Turning taken. -/
def State.startTurning (s : State) : State :=
  let t := s.setDrive .turning
  let t : State := { t with seq := { t.seq with advance := 0, turnComplete := false } }
  t.informEntry.startBreakaway.raiseMarkLoss

/-- R116, R118: Start Turning. -/
def requestStartTurning (a : Asker) (s : State) : Answered :=
  runControl a (s.seq.drive == .ready) (fun t => answerNewState .turning t.startTurning) s

/-- Entry to STOPPING: the stop count is 0 (R120) and a breakaway allowance still running is abandoned (R67). -/
def State.enterStopping (s : State) : State :=
  let t := s.setDrive .stopping
  ({ t with seq := { t.seq with stopCount := 0 } } : State).abandonBreakaway

/-- R116, R119: Stop. -/
def requestStop (a : Asker) (s : State) : Answered :=
  runControl a (s.seq.drive == .running || s.seq.drive == .turning)
    (fun t => answerNewState .stopping t.enterStopping.raiseMarkLoss) s

/-! ## The hot-stop schedule (R124 to R128) -/

/-- Microseconds of a timer counted in seconds. -/
def seconds (n : Nat) : Nat := n * 1000000

/-- R125: the turn timer reloaded with turn_interval, by the state and the hot flag. -/
def State.reloadTurnTimer (b : Bank) (s : State) : State :=
  let t : TurnTimer :=
    if s.seq.hot then (TurnTimer.counting (seconds b.dc.g1.turnInterval)).follow s.seq.drive else .idle
  { s with seq := { s.seq with turnTimer := t } }

/-- R128: turn-due clears and the overdue timer stops. -/
def State.clearTurnDue (s : State) : State := { s with seq := { s.seq with turnDue := false, overdue := .stopped } }

/-- R122, R126: the movement accumulator becomes 0, the turn timer is reloaded, turn-due clears. -/
def State.intervalRestarted (b : Bank) (s : State) : State :=
  (({ s with seq := { s.seq with movement := 0 } } : State).reloadTurnTimer b).clearTurnDue

/-- R127: the overdue timer started with turn_overdue if it is STOPPED. -/
def State.startOverdue (s : State) : State :=
  match s.seq.overdue, s.sched.active with
  | .stopped, some b => { s with seq := { s.seq with overdue := .counting (seconds b.dc.g1.turnOverdue) } }
  | _, _ => s

/-- R127, R133: a turn becomes due. -/
def State.makeTurnDue (s : State) : State :=
  (({ s with seq := { s.seq with turnDue := true } } : State).raiseAttention
    ⟨.turnDue, 0, .nobody, signedDetail s.seq.movement⟩).startOverdue

/-- R124: Set Hot Stop. -/
def requestSetHot (s : State) : Answered :=
  match s.sched.active with
  | none => refuse .refusedState s
  | some b =>
    if s.seq.hot then answerDone [] s
    else answerDone [] (({ s with seq := { s.seq with hot := true, movement := 0 } } : State).reloadTurnTimer b)

/-- R124: Clear Hot Stop. -/
def requestClearHot (s : State) : Answered :=
  answerDone [] ({ s with seq := { s.seq with hot := false, turnTimer := .idle } } : State).clearTurnDue

/-! ## The auxiliary drive (R129 to R134) -/

/-- R130: a takeover judged in READY with grant NONE. -/
def State.judgeTakeover (s : State) : State :=
  if s.seq.turnDue then s.produceDecline declineTurnDue
  else
    let t := s.setDrive .auxiliary
    ({ t with seq := { t.seq with grant := .granted } } : State).produceHandover

/-- R175: a manager whose Restart, answered DONE, is ANSWERING or RESTARTING. -/
def ManagerState.restartPending (x : ManagerState) : Bool :=
  x.holder.state == .restarting ||
  (x.holder.state == .answering &&
    x.replies.any fun r => r.purpose == .answer && r.kind == wordOfNat reqRestart && r.result == .done)

/-- R175: a Restart answered DONE has not yet taken effect. -/
def State.restartPending (s : State) : Bool := s.rqh.master.restartPending || s.rqh.service.restartPending

/-- R130, R175: a takeover frame passed by the Intake. -/
def State.takeTakeover (s : State) : State :=
  if s.restartPending then s.produceDecline declineBlocked
  else
    match s.seq.grant with
    | .granted => s.produceHandover
    | .recalling => s.produceRecall
    | .none =>
      match s.seq.drive with
      | .ready => s.judgeTakeover
      | .stopping => { s with seq := { s.seq with pendingTakeover := true } }
      | .running => s.produceDecline declineRunning
      | .turning => s.produceDecline declineTurning
      | .blocked => s.produceDecline declineBlocked
      | .tripped => s.produceDecline declineTripped
      | .auxiliary => s

/-- R133: a return that answers a recall makes a turn due when the hot flag is set and the turn timer stands EXPIRED. -/
def State.answerRecall (s : State) : State := if s.seq.hot ∧ s.seq.turnTimer = .expired then s.makeTurnDue else s

/-- R133: the grant becomes NONE, and AUXILIARY passes to READY. -/
def State.takeBack (s : State) : State :=
  let t : State := { s with seq := { s.seq with grant := .none, recallTimer := .stopped } }
  if s.seq.drive = .auxiliary then t.setDrive .ready else t

/-- R133: a return frame passed by the Intake. -/
def State.takeReturn (s : State) : State :=
  match s.seq.grant with
  | .none => s
  | .granted => s.takeBack
  | .recalling => s.takeBack.answerRecall

/-- R132: the recall timer loaded with recall_timeout. -/
def State.loadRecallTimer (s : State) : State :=
  match s.sched.active with
  | none => s
  | some b => { s with seq := { s.seq with recallTimer := .counting (seconds b.dc.g1.recallTimeout) } }

/-- R132: the turn timer expires in AUXILIARY. -/
def State.recallGear (s : State) : State :=
  match s.seq.grant with
  | .none => s
  | .granted =>
    ({ s with seq := { s.seq with grant := .recalling, recallCount := 0 } } : State).produceRecall.loadRecallTimer
  | .recalling => s.produceRecall

/-- R125, R127, R132: a COUNTING turn timer reaches 0. -/
def State.turnTimerExpires (s : State) : State :=
  match s.seq.turnTimer with
  | .counting _ =>
    let t : State := { s with seq := { s.seq with turnTimer := .expired } }
    match s.seq.drive with
    | .ready => t.makeTurnDue
    | .auxiliary => t.recallGear
    | _ => t
  | _ => s

/-- R128: a COUNTING overdue timer reaches 0. -/
def State.overdueTimerExpires (s : State) : State :=
  match s.seq.overdue with
  | .counting _ =>
    ({ s with seq := { s.seq with overdue := .expired } } : State).raiseAttention
      ⟨.turnOverdue, 0, .nobody, signedDetail s.seq.movement⟩
  | _ => s

/-- R132: a counting recall timer reaches 0. -/
def State.recallTimerExpires (s : State) : State :=
  match s.seq.recallTimer with
  | .counting _ =>
    let n := bumpBy 255 1 s.seq.recallCount
    (({ s with seq := { s.seq with recallCount := n } } : State).raiseAttention ⟨.auxStuck, 0, .nobody, n⟩).loadRecallTimer
  | .stopped => s

/-- R129: the outgoing auxiliary frame joins the general transmit queue when it may take a place. -/
def State.sendAux (s : State) : State :=
  match s.seq.outgoing with
  | none => s
  | some f =>
    if s.mayTake .aux then
      (({ s with seq := { s.seq with outgoing := none } } : State).joinQueue f).tookPlace .aux
    else s

/-! ## The speed sample (R120 to R122, R126) -/

/-- R121: an angle step, the short way round the revolution. -/
def angleStep (last : Option Nat) (a : Nat) : Int :=
  match last with
  | none => 0
  | some p => ((a : Int) - (p : Int) + 2048) % 4096 - 2048

/-- R122: the turn is complete. -/
def State.completeTurn (b : Bank) (s : State) : State :=
  let t := s.enterStopping
  (({ t with seq := { t.seq with turnComplete := true } } : State).intervalRestarted b).raiseMarkLoss

/-- R120, R131: the STOPPING confirmation. -/
def State.confirmStop (s : State) : State :=
  let t := (s.setDrive .ready).leaveRunning.vibrationOnReady
  if t.seq.pendingTakeover then ({ t with seq := { t.seq with pendingTakeover := false } } : State).judgeTakeover
  else t

/-- R120: the stop count at a taken speed sample in STOPPING. -/
def State.countStop (b : Bank) (speed : Int) (s : State) : State :=
  if speed.natAbs ≤ b.dc.g1.standstillSpeed then
    let n := bumpBy 10000 1 s.seq.stopCount
    let t : State := { s with seq := { s.seq with stopCount := n } }
    if b.dc.g1.stopConfirm ≤ n then t.confirmStop else t
  else { s with seq := { s.seq with stopCount := 0 } }

/-- R121, steps 1 to 3: the step, the last angle and the sums. -/
def Sequencer.addAngle (q : Sequencer) (a : Nat) : Sequencer :=
  let step := angleStep q.lastAngle a
  { q with
    lastAngle := some a
    movement := q.movement + step
    advance := if q.drive = .turning then q.advance + step else q.advance }

/-- R121: the Drive Sequencer at a taken speed sample. -/
def State.sequenceSample (b : Bank) (speed : Int) (angle : Nat) (s : State) : State :=
  let t : State := { s with seq := s.seq.addAngle angle }
  let t := if s.seq.drive = .turning ∧ b.dc.g1.turnAngle ≤ t.seq.advance.natAbs then t.completeTurn b else t
  let t := if b.dc.g1.turnAngle ≤ t.seq.movement.natAbs then t.intervalRestarted b else t
  if s.seq.drive = .stopping then t.countStop b speed else t

end Sys2Proof.Machine
end

