-- ==== Sys2Proof/Machine/Schedule.lean ====
section
/-! DEFINITION. The Schedule Store (chapter 2): computed row, loading and reading, validation, activation, freeze, row pin. -/

namespace Sys2Proof.Machine

/-- R39: the computed row of a speed. -/
def rowOf (b : Bank) (speed : Int) : Fin 32 := ⟨min 31 (speed.natAbs / b.dc.g1.rowWidth), by omega⟩

/-- R39: the Schedule Store at a taken speed sample. -/
def State.computeRow (b : Bank) (speed : Int) (s : State) : State :=
  { s with sched := { s.sched with computedRow := rowOf b speed } }

/-! ## Loading and reading (R27 to R30) -/

/-- R27: a table joins the dirty set. -/
def DirtySet.add (d : DirtySet) : Table → DirtySet
  | .speedSchedule => { d with speedSchedule := true }
  | .vibThresholds => { d with vibThresholds := true }
  | .slotMap => { d with slotMap := true }
  | .driveConstants => { d with driveConstants := true }

/-- R27, R28, R194: the staged bank after a load, none when an argument, the words or a field is out of range. -/
def Schedule.loaded (c : Schedule) (table first count : Word) (rows : List Word) : Option Schedule :=
  match Table.ofCode table.toNat with
  | none => none
  | some t =>
    if t.rowsFit first.toNat count.toNat then
      ((c.staged.getD Bank.zero).loadRows t first.toNat count.toNat rows).map fun b =>
        { c with staged := some b, dirty := c.dirty.add t }
    else none

/-- R27: Load Rows. -/
def requestLoadRows (a : Asker) (table first count : Word) (rows : List Word) (s : State) : Answered :=
  if a.level = .operate then refuse .refusedAccess s
  else if s.sched.frozen then refuse .frozen s
  else if s.sched.activation.isSome then refuse .busy s
  else
    match s.sched.loaded table first count rows with
    | none => refuse .badArgument s
    | some c => answerDone [] { s with sched := c }

/-- R29: the bank a Read Rows names: active 0, staged 1. -/
def Schedule.bankNamed (c : Schedule) : Nat → Option (Option Bank)
  | 0 => some c.active
  | 1 => some c.staged
  | _ => none

/-- R29: Read Rows. -/
def requestReadRows (bank table first count : Word) (s : State) : Answered :=
  match s.sched.bankNamed bank.toNat, Table.ofCode table.toNat with
  | some named, some t =>
    if t.rowsFit first.toNat count.toNat then
      match named with
      | none => refuse .refusedState s
      | some b => answerDone ([bank, table, first, count] ++ b.rowsWords t first.toNat count.toNat) s
    else refuse .badArgument s
  | _, _ => refuse .badArgument s

/-- R30, R43: the staged bank made equal to the active bank and the dirty set emptied. -/
def Schedule.discarded (c : Schedule) : Schedule := { c with staged := c.active, dirty := DirtySet.empty }

/-- R30: Discard Staged. -/
def requestDiscard (a : Asker) (s : State) : Answered :=
  if a.level = .operate then refuse .refusedAccess s
  else if s.sched.frozen then refuse .frozen s
  else if s.sched.activation.isSome then refuse .busy s
  else answerDone [] { s with sched := s.sched.discarded }

/-! ## Validation (R31, R32) -/

/-- R31: the first failure of a validation: table code, row, channel. -/
structure Failure where
  table : Nat
  row : Nat
  channel : Nat
deriving DecidableEq, Repr

/-- R31, order 1: the first Drive Constants group that fails. -/
def DriveConstants.failure (d : DriveConstants) : Option Failure :=
  if !d.g0.inRange || d.g0.iTrip ≤ d.g0.imax then some ⟨3, 0, 0⟩
  else if !d.g1.inRange || d.g1.movingSpeed ≤ d.g1.standstillSpeed then some ⟨3, 1, 0⟩
  else if !d.g2.inRange then some ⟨3, 2, 0⟩
  else if !d.g3.inRange || 512 < d.g3.preDepth + d.g3.postDepth then some ⟨3, 3, 0⟩
  else none

/-- R32: the frame kind a role requires. -/
def Role.kind : Role → SlotKind
  | .none => .armature
  | .arm _ => .armature
  | .speed => .speed
  | .ref => .reference
  | .vib _ => .vibration
  | .aux => .takeover
  | .service => .command

/-- R32: the source addresses allowed for a role, `own` being the part's own address. -/
def Role.sourceAllowed (r : Role) (own src : Addr) : Bool :=
  match r with
  | .ref => src == 0
  | _ => src != 0 && src != 63 && src != own

/-- Two entries with the same key. -/
def SlotEntry.sameKey (e f : SlotEntry) : Bool := e.source == f.source && e.kind == f.kind && e.slot == f.slot

/-- R31, order 2: an in-use entry against those of lower number. -/
def slotEntryOk (own : Addr) (lower : List SlotEntry) (e : SlotEntry) : Bool :=
  e.role == .none ||
  (e.inRange && e.kind == e.role.kind && e.role.sourceAllowed own e.source &&
    lower.all fun f => f.role == .none || (!f.sameKey e && f.role != e.role))

/-- R31, order 2: entry `i` of a slot map. -/
def Bank.slotOk (b : Bank) (own : Addr) (i : Fin 32) : Bool := slotEntryOk own (b.slots.toList.take i.val) b.slots[i]

/-- R31, orders 2 and 3. -/
def Bank.slotFailure (b : Bank) (own : Addr) : Option Failure :=
  match (List.finRange 32).find? fun i => !b.slotOk own i with
  | some i => some ⟨2, i.val, 0⟩
  | none =>
    if [Role.arm .a, .arm .b, .speed, .ref].all fun r => (b.findRole r).isSome then none else some ⟨2, 32, 0⟩

/-- R31, order 4. -/
def Bank.speedFailure (b : Bank) : Option Failure :=
  ((List.finRange 32).find? fun i => !(b.speed[i]).inRange).map fun i => ⟨0, i.val, 0⟩

/-- R31, order 5: a threshold cell. -/
def VibCell.ok (c : VibCell) : Bool := c.inRange && c.deadLo < c.warnHi && c.warnHi ≤ c.alarmHi

/-- R31, order 5: the first failing channel of a row. -/
def vibRowFailure (r : Vector VibCell 4) : Option (Fin 4) := (List.finRange 4).find? fun k => !(r[k]).ok

/-- R31, order 5. -/
def Bank.vibFailure (b : Bank) : Option Failure :=
  (List.finRange 32).findSome? fun i => (vibRowFailure b.vib[i]).map fun k => ⟨1, i.val, k.val⟩

/-- R31: the first failure of a bank, `own` being the part's own address. -/
def Bank.failure (b : Bank) (own : Addr) : Option Failure :=
  b.dc.failure.or ((b.slotFailure own).or (b.speedFailure.or b.vibFailure))

/-! ## Activation (R33 to R36) -/

/-- R35, R36: the swap makes the staged bank active. -/
def State.swap (s : State) : State :=
  match s.sched.staged with
  | none => s
  | some b =>
    let gen := (s.sched.generation + 1) % 4294967296
    let t : State := { s with
      sched := { s.sched with active := some b, dirty := DirtySet.empty, generation := gen }
      split := s.split.swapped b
      reg := ⟨s.reg.a.swapped b, s.reg.b.swapped b⟩ }
    (t.vibrationSwapped s.sched.active).raiseAttention ⟨.tableActivated, 0, .nobody, (gen % 65536 : Nat)⟩

/-- R34: a PENDING activation completes at an accepted mark. -/
def State.pendingSwap (s : State) : State :=
  match s.sched.activation with
  | none => s
  | some _ => s.swap.answerActivation .done

/-- R33: the validated activation: at once in BLOCKED, PENDING in the other states. -/
def requestActivated (a : Asker) (s : State) : Answered :=
  if s.seq.drive = .blocked then answerDone [] s.swap
  else ({ s with sched := { s.sched with activation := some a.manager } }, none)

/-- R33: Activate. -/
def requestActivate (a : Asker) (s : State) : Answered :=
  if a.level = .operate then refuse .refusedAccess s
  else if s.sched.frozen then refuse .frozen s
  else if s.sched.activation.isSome then refuse .busy s
  else if s.seq.drive = .tripped then refuse .refusedState s
  else if (s.sched.dirty.slotMap ∨ s.sched.dirty.driveConstants) ∧ s.seq.drive ≠ .blocked then refuse .refusedState s
  else
    match (s.sched.staged.getD Bank.zero).failure s.rp.strap with
    | some f => (s, some (.invalidTable, [wordOfNat f.table, wordOfNat f.row, wordOfNat f.channel]))
    | none => requestActivated a s

/-! ## Freeze and row pin (R38, R41, R42) -/

/-- R38: Freeze Tables. -/
def requestFreeze (a : Asker) (s : State) : Answered :=
  if a.level = .operate then refuse .refusedAccess s
  else if s.sched.active.isNone then refuse .refusedState s
  else answerDone [] { s with sched := { s.sched with frozen := true } }

/-- R41: the drive states in which a row may be pinned. -/
def DriveState.mayPin : DriveState → Bool
  | .blocked => true
  | .ready => true
  | .turning => true
  | _ => false

/-- R41: Pin Row. -/
def requestPin (a : Asker) (row : Word) (s : State) : Answered :=
  if a.level = .operate then refuse .refusedAccess s
  else if s.sched.frozen then refuse .frozen s
  else if h : row.toNat < 32 then
    if s.sched.active.isSome && s.seq.drive.mayPin then
      answerDone [] { s with sched := { s.sched with pin := some ⟨row.toNat, h⟩ } }
    else refuse .refusedState s
  else refuse .badArgument s

/-- R42: Release Row. -/
def requestRelease (a : Asker) (s : State) : Answered :=
  if a.level = .operate then refuse .refusedAccess s else answerDone [] s.endPin

end Sys2Proof.Machine
end

