-- ==== Sys2Proof/Machine/Intake.lean ====
section
/-! DEFINITION. The Intake (chapter 1): classification, conditioning, takes, deadline and mark timer, the accepted mark. -/

namespace Sys2Proof.Machine

/-! ## Takes (R14, R15) -/

/-- What R14 and R15 make of a mapped frame of a cycle role. -/
inductive Judgement where
  | take
  | stale
  | late
  | duplicate
deriving DecidableEq, Repr

def DeadlineTimer.isRunning : DeadlineTimer → Bool
  | .running _ => true
  | _ => false

/-- R14, R15: a frame with tag `tag` of a role already taken or not. -/
def Intake.judge (i : Intake) (tag : Word) (taken : Bool) : Judgement :=
  if i.cycle ≠ some tag then .stale
  else if !i.deadline.isRunning then .late
  else if taken then .duplicate
  else .take

/-- R15: a frame not taken is counted. -/
def State.discardSample (j : Judgement) (s : State) : State :=
  match j with
  | .take => s
  | .stale => { s with intake := { s.intake with stale := bump s.intake.stale } }
  | .late => { s with intake := { s.intake with late := bump s.intake.late } }
  | .duplicate => { s with intake := { s.intake with duplicate := bump s.intake.duplicate } }

/-- R14: the status of a role at a take. -/
def RoleStatus.takenWith (q : Quality) : RoleStatus := ⟨q, true, 0, false⟩

/-- R14: FRESH, or BAD when the frame's status reports a fault. -/
def qualityOf (fault : Bool) : Quality := if fault then .bad else .fresh

/-- R11, R14, R192: what a take of ARM_m latches, from the frame's three payload words. -/
def latchArm (e : SlotEntry) (w0 w1 w2 : Word) : ArmLatch where
  current := e.condition w1.toInt
  voltage := e.condition w2.toInt
  ready := w0.getLsbD 4
  fault := bitsOf w0 0 4
  status := RoleStatus.takenWith (qualityOf (bitsOf w0 0 4 != 0))

/-- R14, R16, R140: a take of ARM_m: the latch, the converter status to the Trip Unit, and the regulation event of m when the
reference event has been made. -/
def State.takeArm (m : Motor) (x : ArmLatch) (s : State) : State :=
  let t : State := { s with intake := { s.intake with arm := s.intake.arm.set m x } }
  let t := t.takeConverterStatus m x.fault
  t.regulateIf (s.intake.refMade && !s.intake.regMade.get m) m

/-- R11, R14, R192: what a take of SPEED latches. -/
def latchSpeed (e : SlotEntry) (w0 w1 w2 : Word) : SpeedLatch where
  speed := e.condition w1.toInt
  angle := bitsOf w2 0 12
  encoderFault := w0.getLsbD 0
  status := RoleStatus.takenWith (qualityOf (w0.getLsbD 0))

/-- R39, R65, R75, R121: what a delivered speed sample does in the Schedule Store, the Torque Limiter and the Drive Sequencer. -/
def sampleActions (b : Bank) (speed : Int) (angle : Nat) : List (State → State) :=
  [State.computeRow b speed, State.achieveBreakaway b speed, State.watchOverspeed b speed,
   State.sequenceSample b speed angle]

/-- A speed sample that raises OVERSPEED or changes the drive state: the order of its actions can be seen. -/
def State.sampleOrderMatters (b : Bank) (speed : Int) (angle : Nat) (s : State) : Bool :=
  isOverspeed b speed || (s.sequenceSample b speed angle).seq.drive != s.seq.drive

/-- R14, R75: a speed sample delivered. Its actions in the three blocks have no order among them. -/
def State.deliverSpeed (b : Bank) (speed : Int) (angle : Nat) (s : State) : State :=
  if s.sampleOrderMatters b speed angle then inAnyOrder 4 (sampleActions b speed angle) s
  else (sampleActions b speed angle).foldl (fun t act => act t) s

/-- R14: a take of SPEED; a BAD one delivers no speed sample. -/
def State.takeSpeed (b : Bank) (x : SpeedLatch) (s : State) : State :=
  let t : State := { s with intake := { s.intake with speed := x } }
  if x.encoderFault then t else t.deliverSpeed b x.speed x.angle

/-- R11, R14, R192: what a take of REF latches. -/
def latchRef (w0 w1 : Word) : RefLatch where
  reference := if w0.getLsbD 0 then readReference w1 else 0
  status := RoleStatus.takenWith .fresh

/-- R14, R16: a take of REF makes the reference event, which the regulation events of the motors already taken follow. -/
def State.takeRef (x : RefLatch) (s : State) : State :=
  let t : State := { s with intake := { s.intake with ref := x } }
  if s.intake.refMade then t
  else t.referenceEvent.regulateDue s.intake.arm.a.status.taken s.intake.arm.b.status.taken

/-! ## Classification (R9, R20) -/

/-- The sample kinds of R9, with the payload lengths of R192. -/
def sampleKind (kind length : Nat) : Option SlotKind :=
  if kind = kindReference ∧ length = 2 then some .reference
  else if kind = kindArmature ∧ length = 3 then some .armature
  else if kind = kindSpeed ∧ length = 3 then some .speed
  else if kind = kindVibration ∧ length = 10 then some .vibration
  else none

/-- R9: the active entry a sample frame matches; none for an unmapped frame. -/
def State.classify (f : RawFrame) (s : State) : Option (Bank × SlotEntry) :=
  match s.sched.active, sampleKind f.kindCode f.payload.length with
  | some b, some k => (b.findKey f.source k ((f.payload.headD 0).getLsbD 8)).map fun e => (b, e)
  | _, _ => none

/-- R14, R15: a frame of a cycle role is taken, or discarded and counted. -/
def State.takeOrDiscard (tag : Word) (taken : Bool) (act : State → State) (s : State) : State :=
  match s.intake.judge tag taken with
  | .take => act s
  | j => s.discardSample j

/-- R14, R20: a mapped frame goes to the cycle protocol or to vibration intake, by its entry's role. -/
def State.readSample (b : Bank) (e : SlotEntry) (f : RawFrame) (s : State) : State :=
  match e.role, f.payload with
  | .arm m, [w0, w1, w2] =>
    s.takeOrDiscard f.tag (s.intake.arm.get m).status.taken (State.takeArm m (latchArm e w0 w1 w2))
  | .speed, [w0, w1, w2] => s.takeOrDiscard f.tag s.intake.speed.status.taken (State.takeSpeed b (latchSpeed e w0 w1 w2))
  | .ref, [w0, w1] => s.takeOrDiscard f.tag s.intake.ref.status.taken (State.takeRef (latchRef w0 w1))
  | .vib k, w0 :: w1 :: samples =>
    s.vibrationBlock k (bitsOf w0 0 8) (bitsOf w1 0 12) (samples.map fun w => e.condition w.toInt)
  | _, _ => s

/-! ## Deadline expiry (R17, R18) -/

/-- R17, R18: a role not taken becomes HELD with one more miss; the loss condition stands at or above the limit. -/
def RoleStatus.missed (r : RoleStatus) (limit : Nat) : RoleStatus :=
  if r.taken then { r with lossStands := limit ≤ r.miss }
  else
    let n := bumpBy 255 1 r.miss
    { r with quality := .held, miss := n, lossStands := limit ≤ n }

/-- R17, step 1. -/
def Intake.missRoles (i : Intake) (g : Group1) : Intake :=
  { i with
    arm := ⟨{ i.arm.a with status := i.arm.a.status.missed g.missLimit },
            { i.arm.b with status := i.arm.b.status.missed g.missLimit }⟩
    speed := { i.speed with status := i.speed.status.missed g.missLimit }
    ref := { i.ref with status := i.ref.status.missed g.refLossLimit } }

/-- R18: the largest miss count among ARM_A, ARM_B and SPEED. -/
def Intake.largestMiss (i : Intake) : Nat := max (max i.arm.a.status.miss i.arm.b.status.miss) i.speed.status.miss

/-- R18: SAMPLE_LOSS. -/
def State.raiseSampleLoss (s : State) : State := s.raiseCause .sampleLoss .nobody s.intake.largestMiss

/-- R18: REFERENCE_LOSS. -/
def State.raiseReferenceLoss (s : State) : State := s.raiseCause .referenceLoss .nobody s.intake.ref.status.miss

/-- R18: the causes a deadline expiry raises; the rule gives them no order between them. -/
def State.raiseLosses (s : State) : State :=
  match s.intake.sampleLossStands, s.intake.ref.status.lossStands with
  | false, false => s
  | true, false => s.raiseSampleLoss
  | false, true => s.raiseReferenceLoss
  | true, true => inEitherOrder State.raiseSampleLoss State.raiseReferenceLoss s

/-- R17, step 2: the reference event still owed, with the held reference, and the regulation events it starts (R16). -/
def State.oweReference (s : State) : State :=
  if s.intake.refMade then s
  else s.referenceEvent.regulateDue s.intake.arm.a.status.taken s.intake.arm.b.status.taken

/-- R17, step 3: the regulation events still not made. -/
def State.oweRegulation (s : State) : State := s.regulateDue (!s.intake.regMade.a) (!s.intake.regMade.b)

/-- R17: deadline expiry, carried out while the deadline timer runs. -/
def State.deadlineExpires (s : State) : State :=
  if s.intake.deadline.isRunning then
    let t := match s.sched.active with
      | none => s
      | some b => ({ s with intake := s.intake.missRoles b.dc.g1 } : State).raiseLosses.oweReference.oweRegulation
    { t with intake := { t.intake with deadline := .expired } }
  else s

/-! ## The mark timer (R19) -/

/-- R19: what a mark loss raises, by the drive state. -/
def State.raiseMarkTimeout (s : State) : State :=
  match s.seq.drive with
  | .running => s.raiseCause .cycleLost .nobody 0
  | .turning => s.raiseCause .cycleLost .nobody 0
  | .stopping => s.raiseCause .cycleLost .nobody 0
  | .tripped => s.raiseCause .cycleLost .nobody 0
  | _ => s.raiseAttention ⟨.linkQuality, 0, .nobody, 0⟩

/-- R19: a running mark timer expires. -/
def State.markTimerExpires (s : State) : State :=
  match s.intake.markTimer with
  | .running _ =>
    let t := s.deadlineExpires
    ({ t with intake := { t.intake with markLoss := true, markTimer := .stopped } } : State).raiseMarkTimeout
  | _ => s

/-! ## The accepted mark (R12, R13) -/

/-- R12: a tag other than the previous one plus one counts a slip. -/
def Intake.countSlip (i : Intake) (tag : Word) : Intake :=
  match i.cycle with
  | none => i
  | some p => if tag = p + 1 then i else { i with slips := bump i.slips }

/-- R13: the close of the open cycle, and a pending activation swapped in. -/
def State.closeCycle (s : State) : State :=
  match s.intake.cycle with
  | none => s.pendingSwap
  | some _ => s.deadlineExpires.writeSnapshot.pendingSwap

def RoleStatus.opened (r : RoleStatus) : RoleStatus := { r with taken := false }

/-- R13: the new cycle opens with its tag; its timers start only with an active bank (R12). -/
def Intake.opened (i : Intake) (tag : Word) (active : Option Bank) : Intake :=
  { i with
    cycle := some tag
    deadline := match active with
      | none => .notStarted
      | some b => .running b.dc.g1.deadline
    markTimer := match active with
      | none => i.markTimer
      | some b => .running (b.dc.g1.markTimeout * 1000)
    markLoss := false
    arm := ⟨{ i.arm.a with status := i.arm.a.status.opened }, { i.arm.b with status := i.arm.b.status.opened }⟩
    speed := { i.speed with status := i.speed.status.opened }
    ref := { i.ref with status := i.ref.status.opened }
    refMade := false
    regMade := PerMotor.both false }

/-- R13, R152: the new cycle opens; it has no reference event yet. -/
def State.openCycle (tag : Word) (s : State) : State :=
  { s with
    intake := s.intake.opened tag s.sched.active
    lim := { s.lim with breakawayAtRef := false } }

/-- R71, R87, R138: what the other blocks do at an accepted mark, in the new cycle. Where the mark ends a breakaway allowance, and so
may declare a trip, the manual gives these no order. -/
def State.markActions (s : State) : State :=
  if s.lim.breakawayExpiring then inAnyOrder 3 [State.tripMark, State.limiterMark, State.markDriveFrames] s
  else s.tripMark.limiterMark.markDriveFrames

/-- R12, R13: a mark accepted. -/
def State.acceptMark (tag : Word) (s : State) : State :=
  let t : State := { s with intake := s.intake.countSlip tag }
  (t.closeCycle.openCycle tag).markActions

end Sys2Proof.Machine
end

