-- ==== Sys2Proof/Machine/Status.lean ====
section
/-! DEFINITION. Describe and the thirteen pages of Read Status (R177, R178), as words by R193. -/

namespace Sys2Proof.Machine

/-! ## Forms (R193; notes/assumptions/22.md) -/

/-- Units of `size` microseconds left, rounded up. -/
def unitsLeft (size us : Nat) : Word := wordOfNat ((us + size - 1) / size)

/-- R193: a timer is its state's position followed by its remaining time. -/
def timerWords (position : Nat) (remaining : Word) : List Word := [wordOfNat position, remaining]

def DeadlineTimer.words : DeadlineTimer → List Word
  | .notStarted => timerWords 0 0
  | .running us => timerWords 1 (wordOfNat us)
  | .expired => timerWords 2 0

def MarkTimer.words : MarkTimer → List Word
  | .stopped => timerWords 0 0
  | .running us => timerWords 1 (unitsLeft 1000 us)
  | .expired => timerWords 2 0

def TurnTimer.words : TurnTimer → List Word
  | .idle => timerWords 0 0
  | .counting us => timerWords 1 (unitsLeft 1000000 us)
  | .paused us => timerWords 2 (unitsLeft 1000000 us)
  | .expired => timerWords 3 0

def OverdueTimer.words : OverdueTimer → List Word
  | .stopped => timerWords 0 0
  | .counting us => timerWords 1 (unitsLeft 1000000 us)
  | .expired => timerWords 2 0

def RecallTimer.words : RecallTimer → List Word
  | .stopped => timerWords 0 0
  | .counting us => timerWords 1 (unitsLeft 1000000 us)

def FlushTimer.words : FlushTimer → List Word
  | .stopped => timerWords 0 0
  | .running us => timerWords 1 (unitsLeft 1000 us)
  | .flushDue => timerWords 2 0

/-- One word for each motor, A before B. -/
def perMotorWords {α : Type} (f : α → Word) (p : PerMotor α) : List Word := [f p.a, f p.b]

/-- R193: a list of at most `places` entries of `size` words: the number of entries, then every place. -/
def listWords (places size : Nat) (entries : List (List Word)) : List Word :=
  let ws := entries.flatten
  wordOfNat entries.length :: (ws ++ List.replicate (places * size - ws.length) 0)

/-! ## Pages 0 to 4 -/

def ManagerState.holderWords (x : ManagerState) : List Word :=
  [wordOfNat x.holder.state.code, wordOfBool x.abortAnswering]

/-- Page 0: ring and requests. -/
def State.page0 (s : State) : List Word :=
  [wordOfNat s.rp.checkErrors, wordOfNat s.rp.lengthErrors, wordOfNat s.rp.unexpected, wordOfNat s.rp.forwardOverflow,
   wordOfNat s.rp.priorityOverrun, wordOfNat s.rqh.overrun] ++
  s.rqh.master.holderWords ++ s.rqh.service.holderWords ++
  wordsOfOption 2 (s.serviceEntry.map fun e => [wordOfNat e.1.toNat, wordOfNat e.2.code])

def RoleStatus.words (r : RoleStatus) : List Word := [wordOfNat r.quality.code, wordOfBool r.taken, wordOfNat r.miss]

def ArmLatch.words (x : ArmLatch) : List Word :=
  [wordOfInt x.current, wordOfInt x.voltage, wordOfBool x.ready, wordOfNat x.fault] ++ x.status.words

/-- Page 1: intake. -/
def State.page1 (s : State) : List Word :=
  let i := s.intake
  wordsOfOption 1 (i.cycle.map fun t => [t]) ++ i.deadline.words ++ i.markTimer.words ++ [wordOfBool i.markLoss] ++
  i.arm.a.words ++ i.arm.b.words ++
  [wordOfInt i.speed.speed, wordOfNat i.speed.angle, wordOfBool i.speed.encoderFault] ++ i.speed.status.words ++
  [wordOfInt i.ref.reference] ++ i.ref.status.words ++
  [wordOfNat i.slips, wordOfNat i.stale, wordOfNat i.late, wordOfNat i.duplicate]

/-- R193: a set of tables, bit t for table code t. -/
def DirtySet.word (d : DirtySet) : Word :=
  wordOfNat (bitAt d.speedSchedule 0 + bitAt d.vibThresholds 1 + bitAt d.slotMap 2 + bitAt d.driveConstants 3)

/-- Page 2: schedule. The asking manager is 0 for the drive master, 1 for the service station (DEDUCED, notes/assumptions/22.md). -/
def State.page2 (s : State) : List Word :=
  let c := s.sched
  [wordOfBool c.active.isSome, wordOfBool c.staged.isSome, c.dirty.word] ++
  wordsOfOption 1 (c.activation.map fun m => [wordOfNat (managerCode m)]) ++ wordsOfNat32 c.generation ++
  [wordOfNat c.computedRow.val] ++ wordsOfOption 1 (c.pin.map fun r => [wordOfNat r.val]) ++
  [wordOfNat c.rowInForce.val, wordOfBool c.frozen]

def Splitter.words (p : Splitter) : List Word :=
  wordsOfInt32 p.acc ++ [wordOfInt p.trim] ++ perMotorWords wordOfBool p.prevLimited ++ [wordOfNat p.imbalanceCount] ++
  perMotorWords wordOfInt p.lastSplit

def MeasuredTorque.words (p : MeasuredTorque) : List Word := [wordOfInt p.value, wordOfNat p.quality.code, wordOfNat p.age]

def Limiter.words (l : Limiter) : List Word :=
  let m := l.motor
  perMotorWords (fun x => wordOfNat x.lmotEff) m ++ perMotorWords (fun x => wordOfNat x.lgenEff) m ++
  perMotorWords (fun x => wordOfInt x.applied) m ++ perMotorWords (fun x => wordOfInt x.iref) m ++
  perMotorWords (fun x => wordOfBool x.limited) m ++ perMotorWords (fun x => wordOfBool x.clampApplied) m ++
  wordsOfOption 1 (l.breakaway.map fun n => [wordOfNat n]) ++ [wordOfNat l.outcome.code] ++
  perMotorWords (fun x => wordOfNat x.hold) m ++ perMotorWords (fun x => wordOfBool x.reloaded) m ++
  wordsOfOption 3 (m.a.prevTorque.map MeasuredTorque.words) ++ wordsOfOption 3 (m.b.prevTorque.map MeasuredTorque.words) ++
  listWords 8 3 (l.shocks.map fun e => [wordOfNat e.motor.code, e.tag, wordOfNat e.age]) ++
  perMotorWords (fun x => wordOfNat x.shockCount) m

/-- Page 3: torque. -/
def State.page3 (s : State) : List Word := s.split.words ++ s.lim.words

/-- Page 4: regulators. -/
def State.page4 (s : State) : List Word :=
  wordsOfInt32 s.reg.a.acc ++ wordsOfInt32 s.reg.b.acc ++ perMotorWords (fun r => wordOfInt r.output) s.reg ++
  perMotorWords (fun r => wordOfBool r.saturated) s.reg ++ perMotorWords (fun r => wordOfNat r.satCount) s.reg ++
  perMotorWords (fun r => wordOfBool r.satRaised) s.reg ++ perMotorWords (fun r => wordOfBool r.overcurrent) s.reg

/-! ## Pages 5 to 12 -/

def Channel.words (x : Channel) : List Word :=
  wordsOfOption 1 (x.lastSeq.map fun q => [wordOfNat q]) ++ wordsOfOption 2 (x.tracker.map wordsOfInt32) ++
  wordsOfNat48 x.window.sum ++
  [wordOfNat x.window.n, wordOfNat x.window.received, wordOfNat x.window.missed, wordOfNat x.window.peak,
   wordOfNat x.window.sector] ++
  wordsOfNat32 x.lastMs ++
  [wordOfNat x.lastPeak, wordOfNat x.lastSector, wordOfNat x.raw.code, wordOfNat x.conf.state.code, wordOfNat x.conf.alarm,
   wordOfNat x.conf.warn, wordOfNat x.conf.release, wordOfNat x.conf.dead, wordOfNat x.conf.persist,
   wordOfBool x.conf.persistRaised, wordOfNat x.oldBlocks, wordOfNat x.missedBlocks, wordOfNat x.voidWindows,
   wordOfNat x.discarded]

/-- The ceiling of channel `k`'s pinion; both ceilings are equal while no bank assigns it one (R107). -/
def State.channelCeiling (k : Fin 4) (s : State) : Nat :=
  match s.sched.active with
  | none => s.vib.ceiling.a
  | some b => s.vib.ceiling.get b.dc.g2.pinion[k]

/-- Pages 5 to 8: vibration channel 0 to 3. -/
def State.vibPage (k : Fin 4) (s : State) : List Word := (s.channel k).words ++ [wordOfNat (s.channelCeiling k)]

/-- Page 9: sequencer. -/
def State.page9 (s : State) : List Word :=
  let q := s.seq
  [wordOfNat q.drive.code, wordOfNat q.brake.code, wordOfNat q.grant.code, wordOfBool q.pendingTakeover] ++
  q.recallTimer.words ++ [wordOfNat q.recallCount, wordOfBool q.hot] ++ q.turnTimer.words ++ [wordOfInt q.movement] ++
  wordsOfOption 1 (q.lastAngle.map fun a => [wordOfNat a]) ++ [wordOfBool q.turnDue] ++ q.overdue.words ++
  [wordOfInt q.advance, wordOfNat q.stopCount, wordOfBool q.turnComplete]

def CauseRecord.words (r : CauseRecord) : List Word := [wordOfNat r.cause.code, wordOfNat r.who.code, wordOfInt r.detail]

/-- The standing flags, one word for each level cause code 1 to 6 and 15. -/
def StandingFlags.words (f : StandingFlags) : List Word :=
  perMotorWords wordOfBool f.converter ++ perMotorWords wordOfBool f.overcurrent ++
  [wordOfBool f.cycleLost, wordOfBool f.sampleLoss, wordOfBool f.referenceLoss]

/-- Page 10: trip. -/
def State.page10 (s : State) : List Word :=
  let u := s.tru
  [wordOfBool u.declared] ++ wordsOfOption 3 (u.first.map CauseRecord.words) ++ [u.cycleTag, wordOfNat u.age] ++
  listWords 4 2 (u.later.map fun e => [wordOfNat e.1.code, wordOfNat e.2]) ++ [wordOfNat u.dropped] ++
  wordsOfOption 1 (u.converterFault.a.map fun n => [wordOfNat n]) ++
  wordsOfOption 1 (u.converterFault.b.map fun n => [wordOfNat n]) ++ u.standing.words

/-- The readout: its state, then manager (0 the drive master, 1 the service station; DEDUCED, notes/assumptions/22.md), slot, next
index, remaining count, count sent and end status. -/
def ReadoutData.words (r : ReadoutData) : List Word :=
  [wordOfNat (managerCode r.manager), wordOfNat r.slot.val, wordOfNat r.next, wordOfNat r.remaining, wordOfNat r.sent,
   wordOfBool r.aborted]

def Readout.words : Readout → List Word
  | .idle => 0 :: List.replicate 6 0
  | .sending r => 1 :: r.words
  | .closing r => 2 :: r.words

def RecordSlot.stateWords (x : RecordSlot) : List Word :=
  [wordOfNat x.state.code, wordOfBool x.locked, wordOfBool x.pinned]

/-- Page 11: recorder. -/
def State.page11 (s : State) : List Word :=
  let r := s.recorder
  [wordOfNat r.history.length] ++ wordsOfOption 1 (r.history.getLast?.map fun p => [p.tag]) ++
  wordsOfOption 1 (r.marker.map fun n => [wordOfNat n]) ++ wordsOfNat32 r.seqCounter ++
  wordsOfOption 1 (r.currentSlot.map fun k => [wordOfNat k.val]) ++ r.readout.words ++
  r.slots.toList.flatMap RecordSlot.stateWords

/-- R193: the attention set, bit c-1 for attention code c. -/
def Reporter.attentionWord (r : Reporter) : Word :=
  wordOfNat ((Attention.all.map fun k => bitAt r.attention[k.index] k.index.val).sum)

/-- Page 12: reporter. -/
def State.page12 (s : State) : List Word :=
  [s.rpt.attentionWord, wordOfNat s.rpt.notices.length, wordOfBool s.rpt.overflow] ++ s.rpt.flush.words

/-- R178: the pages. -/
def State.page (s : State) : Nat → Option (List Word)
  | 0 => some s.page0
  | 1 => some s.page1
  | 2 => some s.page2
  | 3 => some s.page3
  | 4 => some s.page4
  | 5 => some (s.vibPage 0)
  | 6 => some (s.vibPage 1)
  | 7 => some (s.vibPage 2)
  | 8 => some (s.vibPage 3)
  | 9 => some s.page9
  | 10 => some s.page10
  | 11 => some s.page11
  | 12 => some s.page12
  | _ => none

/-- R178: Read Status. -/
def requestReadStatus (page : Word) (s : State) : Answered :=
  match s.page page.toNat with
  | none => refuse .badArgument s
  | some ws => answerDone ws s

/-! ## Describe (R177) -/

/-- R194: the largest row counts, table by table. -/
def maxCounts : List Word :=
  [wordOfNat Table.speedSchedule.maxCount, wordOfNat Table.vibThresholds.maxCount, wordOfNat Table.slotMap.maxCount,
   wordOfNat Table.driveConstants.maxCount]

/-- R177: Describe. -/
def requestDescribe (a : Asker) (s : State) : Answered :=
  answerDone
    ([0x0001, 0x0016, 1, wordOfNat s.rp.strap.toNat, wordOfNat (managerCode a.manager), wordOfNat a.level.code,
      wordOfBool s.sched.active.isSome] ++ wordsOfNat32 s.sched.generation ++ [wordOfBool s.sched.frozen, 32, 32, 4] ++
     maxCounts ++ maxCounts ++ [1024, 8, 512, 16, 2, 32, 8, 4, 15]) s

end Sys2Proof.Machine
end

