-- ==== Sys2Proof/Machine/Requests.lean ====
section
/-! DEFINITION. The Request Handler (chapter 10): the tests of R173, the request list, responses, Restart. -/

namespace Sys2Proof.Machine

/-! ## Restart (R179) -/

/-- R179: Restart. -/
def requestRestart (a : Asker) (s : State) : Answered :=
  if a.level = .operate then refuse .refusedAccess s
  else if s.seq.drive.isRunning || s.seq.drive == .auxiliary then refuse .refusedState s
  else if s.seq.grant ≠ .none then refuse .refusedState s
  else if s.recorder.capturing.isSome then refuse .refusedState s
  else answerDone [] s

/-! ## The request list (R193) -/

/-- R171, R193: the owning rule's answer to a request of kind `kind` with arguments `args`; none for an unknown kind or a wrong
argument count. DEDUCED (notes/assumptions/31.md): a Load Rows with fewer than three argument words has a wrong count. -/
def ownerDecides (a : Asker) (kind : Nat) (args : List Word) : Option (State → Answered) :=
  match kind, args with
  | 1, [] => some (requestDescribe a)
  | 2, [page] => some (requestReadStatus page)
  | 3, [] => some requestPoll
  | 4, [] => some (requestEnable a)
  | 5, [] => some (requestDisable a)
  | 6, [] => some (requestStartRun a)
  | 7, [] => some (requestStartTurning a)
  | 8, [] => some (requestStop a)
  | 9, [detail] => some (requestTrip detail)
  | 10, [] => some (requestAcknowledge a)
  | 11, [] => some requestSetHot
  | 12, [] => some requestClearHot
  | 13, [] => some requestClearAlarms
  | 14, [code] => some (requestAnnotate code)
  | 15, [slot] => some (requestReadHeader slot)
  | 16, [slot, first, count] => some (requestReadRecord a slot first count)
  | 17, [] => some (requestAbort a)
  | 18, [slot] => some (requestLock slot)
  | 19, [slot] => some (requestUnlock a slot)
  | 20, [] => some (requestErase a)
  | 21, [bank, table, first, count] => some (requestReadRows bank table first count)
  | 22, table :: first :: count :: rows => some (requestLoadRows a table first count rows)
  | 23, [] => some (requestActivate a)
  | 24, [] => some (requestDiscard a)
  | 25, [row] => some (requestPin a row)
  | 26, [] => some (requestRelease a)
  | 27, [] => some (requestFreeze a)
  | 28, [] => some (requestRestart a)
  | _, _ => none

/-! ## Taking a request (R172 to R175) -/

/-- R174, R175: a command discarded without a response. -/
def State.commandOverrun (s : State) : State := { s with rqh := { s.rqh with overrun := bump s.rqh.overrun } }

/-- R174: the refusals waiting in a reply list. -/
def ManagerState.refusals (x : ManagerState) : Nat := x.replies.countP fun r => r.purpose == .refusal

/-- R171, R174: a response formed now to a command of kind `kind` and tag `tag`. -/
def State.respond (a : Asker) (kind tag : Word) (purpose : ReplyPurpose) (r : ResultCode × List Word) (s : State) : State :=
  s.formReply a.manager ⟨a.addr, kind, tag, r.1, r.2, s.cycleTag, purpose⟩

/-- R174: a BUSY refusal, while at most two refusals wait; else the command is discarded. -/
def State.refuseBusy (a : Asker) (kind tag : Word) (s : State) : State :=
  if (s.rqh.get a.manager).refusals ≤ 2 then s.respond a kind tag .refusal (.busy, []) else s.commandOverrun

/-- R173, test 2: an Abort Readout taken in the abort holder. -/
def State.takeAbort (a : Asker) (kind tag : Word) (s : State) : State :=
  let x := s.rqh.get a.manager
  let t : State := { s with rqh := s.rqh.set a.manager { x with abortAnswering := true } }
  match requestAbort a t with
  | (u, some r) => u.respond a kind tag .abortAnswer r
  | (u, none) => u

/-- R172: the holder state of a manager. -/
def State.setHolder (m : Manager) (h : Holder) (s : State) : State :=
  { s with rqh := s.rqh.set m { s.rqh.get m with holder := h } }

/-- R173: a request taken: carried out at once, its response formed at the same moment, but for a PENDING Activate. -/
def State.takeRequest (a : Asker) (kind tag : Word) (args : List Word) (s : State) : State :=
  let t := s.setHolder a.manager ⟨.answering, a.addr, tag⟩
  match ownerDecides a kind.toNat args with
  | none => t.respond a kind tag .answer (.badArgument, [])
  | some act =>
    match act t with
    | (u, some r) => u.respond a kind tag .answer r
    | (u, none) => u.setHolder a.manager ⟨.waitingSwap, a.addr, tag⟩

/-- R173 to R175: a manager's command, by the first test that holds. -/
def State.managerCommand (a : Asker) (kind tag : Word) (args : List Word) (s : State) : State :=
  let x := s.rqh.get a.manager
  if s.restartPending then s.commandOverrun
  else if 4 ≤ x.replies.length then s.commandOverrun
  else if kind.toNat = reqAbortReadout ∧ x.holder.state = .reading then
    if x.abortAnswering then s.refuseBusy a kind tag else s.takeAbort a kind tag
  else if x.holder.state ≠ .free then s.refuseBusy a kind tag
  else s.takeRequest a kind tag args

/-- R2, R10, R170, R191: a frame consumed and not read. -/
def State.countUnexpected (s : State) : State := { s with rp := { s.rp with unexpected := bump s.rp.unexpected } }

/-- R170, R191: a command frame's payload with its source address. -/
def State.handleCommand (src : Addr) (payload : List Word) (s : State) : State :=
  match payload with
  | kind :: tag :: args =>
    match s.managerOf src with
    | none => s.countUnexpected
    | some (m, level) => s.managerCommand ⟨m, level, src⟩ kind tag args
  | _ => s.countUnexpected

/-! ## Responses joining the queue (R172, R174) -/

/-- R172: the holder after the response of its request has joined the queue. -/
def Holder.answered (h : Holder) (r : Reply) : Holder :=
  if r.result = .done ∧ r.kind = wordOfNat reqReadRecord then { h with state := .reading }
  else if r.result = .done ∧ r.kind = wordOfNat reqRestart then { h with state := .restarting }
  else { h with state := .free }

/-- R172, R173: a manager's holders after a response has joined the queue. -/
def ManagerState.replied (x : ManagerState) (r : Reply) (rest : List Reply) : ManagerState :=
  match r.purpose with
  | .refusal => { x with replies := rest }
  | .answer => { x with replies := rest, holder := x.holder.answered r }
  | .abortAnswer => { x with replies := rest, abortAnswering := false }

/-- R171, R193: a response frame. Its cycle tag is that of the open cycle when the response is produced; where that differs between
the forming of the response and its joining the queue, which of the two it carries is a free choice. -/
def State.responseFrame (r : Reply) (s : State) : RawFrame :=
  makeFrame r.dest s.rp.strap kindResponse (if s.coin then r.formedTag else s.cycleTag)
    (r.kind :: r.tag :: wordOfNat r.result.code :: r.results)

/-- The state after a response frame has been formed: a choice is drawn only where the two tags differ. -/
def State.responseDrawn (r : Reply) (s : State) : State := if r.formedTag = s.cycleTag then s else s.drawn

/-- R174: the head response of a manager's reply list joins the queue when it may take a place. -/
def State.sendReply (m : Manager) (s : State) : State :=
  let x := s.rqh.get m
  match x.replies with
  | [] => s
  | r :: rest =>
    if s.mayTake (.reply m) then
      let t := s.responseDrawn r
      (({ t with rqh := s.rqh.set m (x.replied r rest) } : State).joinQueue (s.responseFrame r)).tookPlace (.reply m)
    else s

end Sys2Proof.Machine
end

