-- ==== Sys2Proof/Machine/RingPort.lean ====
section
/-! DEFINITION. The Ring Port (chapter 1): what becomes of a received frame, and the end of a transmission. Restart (R180). -/

namespace Sys2Proof.Machine

/-! ## Received frames (R1 to R3, R9, R10, R12) -/

/-- R1: a length error. -/
def State.countLengthError (s : State) : State := { s with rp := { s.rp with lengthErrors := bump s.rp.lengthErrors } }

/-- R1: a check error. -/
def State.countCheckError (s : State) : State := { s with rp := { s.rp with checkErrors := bump s.rp.checkErrors } }

/-- R10: a takeover or return frame is passed on only from the active AUX entry's source address. -/
def State.passAux (f : RawFrame) (act : State → State) (s : State) : State :=
  if s.auxAddr = some f.source then act s else s.countUnexpected

/-- R2, R10: a frame consumed at the part's own address. -/
def State.consume (f : RawFrame) (s : State) : State :=
  if f.kindCode = kindCommand then s.handleCommand f.source f.payload
  else if f.kindCode = kindTakeover then s.passAux f State.takeTakeover
  else if f.kindCode = kindReturn then s.passAux f State.takeReturn
  else s.countUnexpected

/-- R2, R9, R12: what the part reads of a broadcast frame. -/
def State.readBroadcast (f : RawFrame) (s : State) : State :=
  if f.kindCode = kindMark then
    if f.source = 0 then s.acceptMark f.tag else s
  else
    match s.classify f with
    | none => s
    | some (b, e) => s.readSample b e f

/-- R2: a checked frame at a station. DEDUCED (notes/assumptions/32.md): a broadcast frame that R4 drops, since the forwarding buffer
holds four, is read all the same. -/
def State.dispose (f : RawFrame) (s : State) : State :=
  if f.source = s.rp.strap then s
  else if f.dest = s.rp.strap then s.consume f
  else if f.dest = 63 then (s.forward f).readBroadcast f
  else s.forward f

/-- R1 to R3: a frame received whole. -/
def State.receiveFrame (f : RawFrame) (s : State) : State :=
  if f.lengthError then s.countLengthError
  else if f.checkError then s.countCheckError
  else if s.forwardingOnly then s.forward f
  else s.dispose f

/-- R2, R170, R191: a command frame with source `src` and this payload, received whole and checked at the part's own address. A
forwarding-only station forwards the frame (R3); its cycle tag, which no rule reads and the row does not carry, is a free value. -/
def State.commandArrives (src : Addr) (payload : List Word) (s : State) : State :=
  if 64 < payload.length then s.countLengthError
  else if s.forwardingOnly then
    s.drawn.forward (makeFrame s.rp.strap src kindCommand (BitVec.ofNat 16 (Config.choice s.draws)) payload)
  else if src = s.rp.strap then s
  else s.handleCommand src payload

/-! ## Restart takes effect (R180) -/

/-- R8: the Ring Port keeps its strap value and its forwarding buffer. -/
def RingPort.restarted (r : RingPort) : RingPort := { RingPort.initial r.strap with buffer := r.buffer }

/-- R43. -/
def Schedule.restarted (c : Schedule) : Schedule :=
  { Schedule.initial with
    active := c.active
    staged := c.active
    generation := c.generation
    frozen := c.frozen }

/-- R137: the turn timer is reloaded, PAUSED, if hot; IDLE if not. -/
def restartedTurnTimer (hot : Bool) (active : Option Bank) : TurnTimer :=
  match hot, active with
  | true, some b => .paused (seconds b.dc.g1.turnInterval)
  | _, _ => .idle

/-- R137. -/
def Sequencer.restarted (q : Sequencer) (active : Option Bank) : Sequencer :=
  { Sequencer.initial with
    hot := q.hot
    turnTimer := restartedTurnTimer q.hot active
    turnDue := q.turnDue
    overdue := q.overdue }

/-- R180: every block takes the state its chapter gives for Restart. -/
def State.restarted (s : State) : State :=
  { State.initial s.rp.strap with
    pending := s.pending
    draws := s.draws
    rp := s.rp.restarted
    sched := s.sched.restarted
    seq := s.seq.restarted s.sched.active
    recorder := s.recorder.retained
    rqh := { Requests.initial with overrun := s.rqh.overrun } }

/-! ## The end of a transmission (R5, R7, R8) -/

/-- R8, R180: a frame whose transmission's end makes a Restart take effect: the response DONE to a Restart. -/
def isRestartResponse (f : RawFrame) : Bool :=
  f.kindCode == kindResponse && f.payload[0]? == some (wordOfNat reqRestart) &&
  f.payload[2]? == some (wordOfNat ResultCode.done.code)

/-- The port is sending the response of a Restart answered DONE. -/
def State.sendingRestart (s : State) : Bool :=
  match s.rp.port with
  | .general f => isRestartResponse f
  | _ => false

def State.portIdle (s : State) : State := { s with rp := { s.rp with port := .idle } }

/-- R5, R7, R8: the frame now leaving the output port has left. -/
def State.transmissionEnds (s : State) : State :=
  match s.rp.port with
  | .idle => s
  | .forwarding _ => s.portIdle.arbitrate
  | .priority _ => s.portIdle.arbitrate
  | .general f =>
    if isRestartResponse f then s.restarted.arbitrate else s.portIdle.placeFellFree.arbitrate

/-! ## Power-on and hardware reset (R181, R196) -/

/-- R8, R169, R181: power-on with the strap value and the backup-supply-good line as read. -/
def State.poweredOn (straps : Addr) (backupGood : Bool) (s : State) : State :=
  { State.initial straps with
    pending := s.pending
    draws := s.draws
    recorder := if backupGood then s.recorder.retained else Recorder.initial }

/-- R8, R169, R181, R196: the release of RESET_N, with the strap value then read. -/
def State.hardwareReset (straps : Addr) (s : State) : State :=
  { State.initial straps with
    pending := s.pending
    draws := s.draws
    recorder := s.recorder.retained }

end Sys2Proof.Machine
end

