-- ==== Sys2Proof/Machine/FrameCommands.lean ====
section
/-! DEFINITION. The commands that are frames at the ring input, and the end of a transmission at the ring output. -/

namespace Sys2Proof.Machine

/-- R1: any frame received whole. -/
def execFrameReceived (f : RawFrame) (s : State) : Host.Outcome State Fault Refusal := .next (s.receiveFrame f)

/-- R12: a mark frame received whole. -/
def execMark (f : RawFrame) (s : State) : Host.Outcome State Fault Refusal := .next (s.receiveFrame f)

/-- R71: a shock hold counter reaches 0 at the acceptance of a mark, in the order R13 and R71 give; the command is that mark's frame
(notes/assumptions/5.md). -/
def execShockHoldExpiry (f : RawFrame) (s : State) : Host.Outcome State Fault Refusal := .next (s.receiveFrame f)

/-- R71: a shock list entry ages out at the acceptance of a mark; the command is that mark's frame (notes/assumptions/5.md). -/
def execShockEntryAgedOut (f : RawFrame) (s : State) : Host.Outcome State Fault Refusal := .next (s.receiveFrame f)

/-- R66: a breakaway allowance expires at the acceptance of a mark; the command is that mark's frame (notes/assumptions/5.md). -/
def execBreakawayExpired (f : RawFrame) (s : State) : Host.Outcome State Fault Refusal := .next (s.receiveFrame f)

/-- R34: a pending activation completes at the acceptance of a mark; the command is that mark's frame (notes/assumptions/5.md). -/
def execPendingActivationSwap (f : RawFrame) (s : State) : Host.Outcome State Fault Refusal := .next (s.receiveFrame f)

/-- R14: an armature, speed or reference frame received whole. -/
def execSampleFrame (f : RawFrame) (s : State) : Host.Outcome State Fault Refusal := .next (s.receiveFrame f)

/-- R20: a vibration frame received whole. -/
def execVibrationBlock (f : RawFrame) (s : State) : Host.Outcome State Fault Refusal := .next (s.receiveFrame f)

/-- R130: a takeover frame received whole. -/
def execTakeover (f : RawFrame) (s : State) : Host.Outcome State Fault Refusal := .next (s.receiveFrame f)

/-- R133: a return frame received whole. -/
def execReturnFrame (f : RawFrame) (s : State) : Host.Outcome State Fault Refusal := .next (s.receiveFrame f)

/-- R5: the frame now leaving the output port has left; nothing while the port is idle. -/
def execTransmissionEnd (s : State) : Host.Outcome State Fault Refusal := .next s.transmissionEnds

/-- R180: the transmission of the response to a Restart answered DONE ends; nothing while another frame or none is being sent. -/
def execRestartTakesEffect (s : State) : Host.Outcome State Fault Refusal :=
  .next (if s.sendingRestart then s.transmissionEnds else s)

end Sys2Proof.Machine
end

