-- ==== Sys2Proof/Machine/QueueCommands.lean ====
section
/-! DEFINITION. The commands that are a free place of the general transmit queue offered to one producer (R7); nothing where it has no frame or may
not take the place. -/

namespace Sys2Proof.Machine

/-- R129: the outgoing auxiliary frame joins the queue. -/
def execAuxFrameQueued (s : State) : Host.Outcome State Fault Refusal := .next s.sendAux

/-- R188: a notice frame joins the queue. -/
def execNoticeFrame (s : State) : Host.Outcome State Fault Refusal := .next s.sendNotices

/-- R174: the head response of a reply list joins the queue. -/
def execResponseQueued (m : Manager) (s : State) : Host.Outcome State Fault Refusal := .next (s.sendReply m)

/-- R164: the next record data segment joins the queue. -/
def execRecordData (s : State) : Host.Outcome State Fault Refusal := .next s.sendSegment

/-- R165: the record end frame joins the queue. -/
def execRecordEnd (s : State) : Host.Outcome State Fault Refusal := .next s.sendRecordEnd

end Sys2Proof.Machine
end

