-- ==== Sys2Proof/Machine/RequestCommands.lean ====
section
/-! DEFINITION. The commands that are requests: a checked command frame at the part's own address, with the request kind of R193, the request tag
and the arguments. -/

namespace Sys2Proof.Machine

/-- R171, R191: a command of any kind and any length, unknown kinds among them. -/
def execUnknownRequest (src : Addr) (payload : List Word) (s : State) : Host.Outcome State Fault Refusal :=
  .next (s.commandArrives src payload)

/-- R177: Describe. -/
def execDescribe (src : Addr) (tag : Word) (s : State) : Host.Outcome State Fault Refusal :=
  .next (s.commandArrives src [1, tag])

/-- R178: Read Status. -/
def execReadStatus (src : Addr) (tag page : Word) (s : State) : Host.Outcome State Fault Refusal :=
  .next (s.commandArrives src [2, tag, page])

/-- R184: Poll Attention. -/
def execPollAttention (src : Addr) (tag : Word) (s : State) : Host.Outcome State Fault Refusal :=
  .next (s.commandArrives src [3, tag])

/-- R116: Enable. -/
def execEnable (src : Addr) (tag : Word) (s : State) : Host.Outcome State Fault Refusal :=
  .next (s.commandArrives src [4, tag])

/-- R116: Disable. -/
def execDisable (src : Addr) (tag : Word) (s : State) : Host.Outcome State Fault Refusal :=
  .next (s.commandArrives src [5, tag])

/-- R117: Start Run. -/
def execStartRun (src : Addr) (tag : Word) (s : State) : Host.Outcome State Fault Refusal :=
  .next (s.commandArrives src [6, tag])

/-- R118: Start Turning. -/
def execStartTurning (src : Addr) (tag : Word) (s : State) : Host.Outcome State Fault Refusal :=
  .next (s.commandArrives src [7, tag])

/-- R119: Stop. -/
def execStop (src : Addr) (tag : Word) (s : State) : Host.Outcome State Fault Refusal :=
  .next (s.commandArrives src [8, tag])

/-- R147: Trip. -/
def execTrip (src : Addr) (tag detail : Word) (s : State) : Host.Outcome State Fault Refusal :=
  .next (s.commandArrives src [9, tag, detail])

/-- R148: Acknowledge Trip. -/
def execAcknowledgeTrip (src : Addr) (tag : Word) (s : State) : Host.Outcome State Fault Refusal :=
  .next (s.commandArrives src [10, tag])

/-- R124: Set Hot Stop. -/
def execSetHotStop (src : Addr) (tag : Word) (s : State) : Host.Outcome State Fault Refusal :=
  .next (s.commandArrives src [11, tag])

/-- R124: Clear Hot Stop. -/
def execClearHotStop (src : Addr) (tag : Word) (s : State) : Host.Outcome State Fault Refusal :=
  .next (s.commandArrives src [12, tag])

/-- R109: Clear Alarms. -/
def execClearAlarms (src : Addr) (tag : Word) (s : State) : Host.Outcome State Fault Refusal :=
  .next (s.commandArrives src [13, tag])

/-- R154: Annotate. -/
def execAnnotate (src : Addr) (tag code : Word) (s : State) : Host.Outcome State Fault Refusal :=
  .next (s.commandArrives src [14, tag, code])

/-- R160: Read Record Header. -/
def execReadRecordHeader (src : Addr) (tag slot : Word) (s : State) : Host.Outcome State Fault Refusal :=
  .next (s.commandArrives src [15, tag, slot])

/-- R163: Read Record. -/
def execReadRecord (src : Addr) (tag slot first count : Word) (s : State) : Host.Outcome State Fault Refusal :=
  .next (s.commandArrives src [16, tag, slot, first, count])

/-- R166: Abort Readout. -/
def execAbortReadout (src : Addr) (tag : Word) (s : State) : Host.Outcome State Fault Refusal :=
  .next (s.commandArrives src [17, tag])

/-- R161: Lock Record. -/
def execLockRecord (src : Addr) (tag slot : Word) (s : State) : Host.Outcome State Fault Refusal :=
  .next (s.commandArrives src [18, tag, slot])

/-- R161: Unlock Record. -/
def execUnlockRecord (src : Addr) (tag slot : Word) (s : State) : Host.Outcome State Fault Refusal :=
  .next (s.commandArrives src [19, tag, slot])

/-- R162: Erase Records. -/
def execEraseRecords (src : Addr) (tag : Word) (s : State) : Host.Outcome State Fault Refusal :=
  .next (s.commandArrives src [20, tag])

/-- R29: Read Rows. -/
def execReadRows (src : Addr) (tag bank table first count : Word) (s : State) : Host.Outcome State Fault Refusal :=
  .next (s.commandArrives src [21, tag, bank, table, first, count])

/-- R27: Load Rows. -/
def execLoadRows (src : Addr) (tag table first count : Word) (rows : List Word) (s : State) : Host.Outcome State Fault Refusal :=
  .next (s.commandArrives src (22 :: tag :: table :: first :: count :: rows))

/-- R33: Activate. -/
def execActivate (src : Addr) (tag : Word) (s : State) : Host.Outcome State Fault Refusal :=
  .next (s.commandArrives src [23, tag])

/-- R30: Discard Staged. -/
def execDiscardStaged (src : Addr) (tag : Word) (s : State) : Host.Outcome State Fault Refusal :=
  .next (s.commandArrives src [24, tag])

/-- R41: Pin Row. -/
def execPinRow (src : Addr) (tag row : Word) (s : State) : Host.Outcome State Fault Refusal :=
  .next (s.commandArrives src [25, tag, row])

/-- R42: Release Row. -/
def execReleaseRow (src : Addr) (tag : Word) (s : State) : Host.Outcome State Fault Refusal :=
  .next (s.commandArrives src [26, tag])

/-- R38: Freeze Tables. -/
def execFreezeTables (src : Addr) (tag : Word) (s : State) : Host.Outcome State Fault Refusal :=
  .next (s.commandArrives src [27, tag])

/-- R179: Restart. -/
def execRestart (src : Addr) (tag : Word) (s : State) : Host.Outcome State Fault Refusal :=
  .next (s.commandArrives src [28, tag])

end Sys2Proof.Machine
end

