-- ==== Sys2Proof/Machine/ResetCommands.lean ====
section
/-! DEFINITION. The commands that are resets from the part's lines. -/

namespace Sys2Proof.Machine

/-- R181: power-on, with the strap and backup-supply-good lines as read. -/
def execPowerOn (straps : Addr) (backupGood : Bool) (s : State) : Host.Outcome State Fault Refusal :=
  .next (s.poweredOn straps backupGood)

/-- R196: RESET_N asserted and released, with the strap lines as read at its rising edge. -/
def execHardwareReset (straps : Addr) (s : State) : Host.Outcome State Fault Refusal := .next (s.hardwareReset straps)

end Sys2Proof.Machine
end

