-- ==== Sys2Proof/Machine/TimerCommands.lean ====
section
/-! DEFINITION. The commands that are expiries of a timer; nothing where that timer is not running (notes/assumptions/6.md). -/

namespace Sys2Proof.Machine

/-- R17: the deadline timer of the open cycle expires. -/
def execDeadlineExpiry (s : State) : Host.Outcome State Fault Refusal := .next s.deadlineExpires

/-- R19: the mark timer expires. -/
def execMarkTimerExpiry (s : State) : Host.Outcome State Fault Refusal := .next s.markTimerExpires

/-- R125: the turn timer expires. -/
def execTurnTimerExpiry (s : State) : Host.Outcome State Fault Refusal := .next s.turnTimerExpires

/-- R128: the overdue timer expires. -/
def execOverdueTimerExpiry (s : State) : Host.Outcome State Fault Refusal := .next s.overdueTimerExpires

/-- R132: the recall timer expires. -/
def execRecallTimerExpiry (s : State) : Host.Outcome State Fault Refusal := .next s.recallTimerExpires

/-- R188: the flush timer expires. -/
def execFlushTimerExpiry (s : State) : Host.Outcome State Fault Refusal := .next s.flushExpires

end Sys2Proof.Machine
end

