-- ==== Sys2Proof/Machine/Dispatch.lean ====
section
/-! DEFINITION. Each command's meaning, one arm for each constructor, in the order of spec/opcode_table.json. -/

namespace Sys2Proof.Machine

def exec (i : Instr) (s : State) : Host.Outcome State Fault Refusal :=
  match i with
  | .frameReceived f => Sys2Proof.Machine.execFrameReceived f s
  | .transmissionEnd => Sys2Proof.Machine.execTransmissionEnd s
  | .mark f => Sys2Proof.Machine.execMark f s
  | .shockHoldExpiry f => Sys2Proof.Machine.execShockHoldExpiry f s
  | .shockEntryAgedOut f => Sys2Proof.Machine.execShockEntryAgedOut f s
  | .breakawayExpired f => Sys2Proof.Machine.execBreakawayExpired f s
  | .pendingActivationSwap f => Sys2Proof.Machine.execPendingActivationSwap f s
  | .sampleFrame f => Sys2Proof.Machine.execSampleFrame f s
  | .deadlineExpiry => Sys2Proof.Machine.execDeadlineExpiry s
  | .markTimerExpiry => Sys2Proof.Machine.execMarkTimerExpiry s
  | .vibrationBlock f => Sys2Proof.Machine.execVibrationBlock f s
  | .takeover f => Sys2Proof.Machine.execTakeover f s
  | .returnFrame f => Sys2Proof.Machine.execReturnFrame f s
  | .auxFrameQueued => Sys2Proof.Machine.execAuxFrameQueued s
  | .turnTimerExpiry => Sys2Proof.Machine.execTurnTimerExpiry s
  | .overdueTimerExpiry => Sys2Proof.Machine.execOverdueTimerExpiry s
  | .recallTimerExpiry => Sys2Proof.Machine.execRecallTimerExpiry s
  | .noticeFrame => Sys2Proof.Machine.execNoticeFrame s
  | .flushTimerExpiry => Sys2Proof.Machine.execFlushTimerExpiry s
  | .responseQueued m => Sys2Proof.Machine.execResponseQueued m s
  | .unknownRequest src payload => Sys2Proof.Machine.execUnknownRequest src payload s
  | .describe src tag => Sys2Proof.Machine.execDescribe src tag s
  | .readStatus src tag page => Sys2Proof.Machine.execReadStatus src tag page s
  | .pollAttention src tag => Sys2Proof.Machine.execPollAttention src tag s
  | .enable src tag => Sys2Proof.Machine.execEnable src tag s
  | .disable src tag => Sys2Proof.Machine.execDisable src tag s
  | .startRun src tag => Sys2Proof.Machine.execStartRun src tag s
  | .startTurning src tag => Sys2Proof.Machine.execStartTurning src tag s
  | .stop src tag => Sys2Proof.Machine.execStop src tag s
  | .trip src tag detail => Sys2Proof.Machine.execTrip src tag detail s
  | .acknowledgeTrip src tag => Sys2Proof.Machine.execAcknowledgeTrip src tag s
  | .setHotStop src tag => Sys2Proof.Machine.execSetHotStop src tag s
  | .clearHotStop src tag => Sys2Proof.Machine.execClearHotStop src tag s
  | .clearAlarms src tag => Sys2Proof.Machine.execClearAlarms src tag s
  | .annotate src tag code => Sys2Proof.Machine.execAnnotate src tag code s
  | .readRecordHeader src tag slot => Sys2Proof.Machine.execReadRecordHeader src tag slot s
  | .readRecord src tag slot first count => Sys2Proof.Machine.execReadRecord src tag slot first count s
  | .recordData => Sys2Proof.Machine.execRecordData s
  | .recordEnd => Sys2Proof.Machine.execRecordEnd s
  | .abortReadout src tag => Sys2Proof.Machine.execAbortReadout src tag s
  | .lockRecord src tag slot => Sys2Proof.Machine.execLockRecord src tag slot s
  | .unlockRecord src tag slot => Sys2Proof.Machine.execUnlockRecord src tag slot s
  | .eraseRecords src tag => Sys2Proof.Machine.execEraseRecords src tag s
  | .readRows src tag bank table first count => Sys2Proof.Machine.execReadRows src tag bank table first count s
  | .loadRows src tag table first count rows => Sys2Proof.Machine.execLoadRows src tag table first count rows s
  | .activate src tag => Sys2Proof.Machine.execActivate src tag s
  | .discardStaged src tag => Sys2Proof.Machine.execDiscardStaged src tag s
  | .pinRow src tag row => Sys2Proof.Machine.execPinRow src tag row s
  | .releaseRow src tag => Sys2Proof.Machine.execReleaseRow src tag s
  | .freezeTables src tag => Sys2Proof.Machine.execFreezeTables src tag s
  | .restart src tag => Sys2Proof.Machine.execRestart src tag s
  | .restartTakesEffect => Sys2Proof.Machine.execRestartTakesEffect s
  | .powerOn straps backupGood => Sys2Proof.Machine.execPowerOn straps backupGood s
  | .hardwareReset straps => Sys2Proof.Machine.execHardwareReset straps s

end Sys2Proof.Machine
end

