-- ==== Sys2Proof/Machine/Time.lean ====
section
/-! DEFINITION. The time base: one microsecond passing (notes/assumptions/1.md), which counts the running timers down and carries out
the expiries that fall due. -/

namespace Sys2Proof.Machine

def DeadlineTimer.counted : DeadlineTimer → DeadlineTimer
  | .running us => .running (us - 1)
  | t => t

def MarkTimer.counted : MarkTimer → MarkTimer
  | .running us => .running (us - 1)
  | t => t

def TurnTimer.counted : TurnTimer → TurnTimer
  | .counting us => .counting (us - 1)
  | t => t

def OverdueTimer.counted : OverdueTimer → OverdueTimer
  | .counting us => .counting (us - 1)
  | t => t

def RecallTimer.counted : RecallTimer → RecallTimer
  | .counting us => .counting (us - 1)
  | t => t

def FlushTimer.counted : FlushTimer → FlushTimer
  | .running us => .running (us - 1)
  | t => t

/-- Every running timer one microsecond on. -/
def State.countTimers (s : State) : State :=
  { s with
    intake := { s.intake with deadline := s.intake.deadline.counted, markTimer := s.intake.markTimer.counted }
    seq := { s.seq with
      turnTimer := s.seq.turnTimer.counted
      overdue := s.seq.overdue.counted
      recallTimer := s.seq.recallTimer.counted }
    rpt := { s.rpt with flush := s.rpt.flush.counted } }

/-- A timer's expiry: when it is due, and what it does (R17, R19, R125, R128, R132, R188). -/
structure Expiry where
  due : State → Bool
  act : State → State

def expiries : List Expiry :=
  [⟨fun s => s.intake.deadline == .running 0, State.deadlineExpires⟩,
   ⟨fun s => s.intake.markTimer == .running 0, State.markTimerExpires⟩,
   ⟨fun s => s.seq.turnTimer == .counting 0, State.turnTimerExpires⟩,
   ⟨fun s => s.seq.overdue == .counting 0, State.overdueTimerExpires⟩,
   ⟨fun s => s.seq.recallTimer == .counting 0, State.recallTimerExpires⟩,
   ⟨fun s => s.rpt.flush == .running 0, State.flushExpires⟩]

/-- An expiry carried out if it is still due: one that another expiry of the same moment has undone does not happen. -/
def Expiry.ifDue (e : Expiry) (s : State) : State := if e.due s then e.act s else s

/-- One microsecond of the time base. Expiries that fall due together have no order between them. -/
def State.tick (s : State) : State :=
  let t := s.countTimers
  inAnyOrder 6 ((expiries.filter fun e => e.due t).map Expiry.ifDue) t

end Sys2Proof.Machine
end

