-- ==== Sys2Proof/Safety.lean ====
section
/-! DEFINITION. What claims speak of: a frame heard, a request taken and answered, and the laws that a safe run keeps. -/

namespace Sys2Proof.Machine

/-! ## Conditions of a command -/

/-- A frame that passes R1's two checks. -/
abbrev cleanFrame (f : RawFrame) : Prop := f.lengthError = false ∧ f.checkError = false

/-- R2: a checked broadcast frame of another station, at a station. -/
abbrev State.hears (s : State) (f : RawFrame) : Prop :=
  cleanFrame f ∧ s.forwardingOnly = false ∧ f.source ≠ s.rp.strap ∧ f.dest = 63

/-- R2, R10: a checked frame from the active AUX entry's source address, at the part's own address. -/
abbrev State.hearsAux (s : State) (f : RawFrame) : Prop :=
  cleanFrame f ∧ s.forwardingOnly = false ∧ f.source ≠ s.rp.strap ∧ f.dest = s.rp.strap ∧ s.auxAddr = some f.source

/-- The commands that are a frame received whole. -/
def frameCommands (f : RawFrame) : List Instr :=
  [.frameReceived f, .mark f, .shockHoldExpiry f, .shockEntryAgedOut f, .breakawayExpired f, .pendingActivationSwap f,
   .sampleFrame f, .vibrationBlock f, .takeover f, .returnFrame f]

/-- R14, R15: the taken flag of the cycle role of a mapped frame; none for a frame of another role. -/
def cycleTaken (i : Intake) (e : SlotEntry) (f : RawFrame) : Option Bool :=
  match e.role, f.payload with
  | .arm m, [_, _, _] => some (i.arm.get m).status.taken
  | .speed, [_, _, _] => some i.speed.status.taken
  | .ref, [_, _] => some i.ref.status.taken
  | _, _ => none

/-- R14: a heard frame mapped to entry `e` of the active bank `b` is taken: its tag is that of the open cycle, the deadline timer
runs, and its role has not been taken. -/
abbrev State.takesSample (s : State) (f : RawFrame) (b : Bank) (e : SlotEntry) : Prop :=
  s.hears f ∧ s.classify f = some (b, e) ∧ s.intake.cycle = some f.tag ∧ s.intake.deadline.isRunning = true ∧
  cycleTaken s.intake e f = some false

/-- R12: a mark heard from the drive master. -/
abbrev State.hearsMark (s : State) (f : RawFrame) : Prop := s.hears f ∧ f.kindCode = kindMark ∧ f.source = 0

/-- The commands that are requests, with the source address and the payload words of R193. -/
def requestOf : Instr → Option (Addr × List Word)
  | .unknownRequest src ws => some (src, ws)
  | .describe src tag => some (src, [1, tag])
  | .readStatus src tag page => some (src, [2, tag, page])
  | .pollAttention src tag => some (src, [3, tag])
  | .enable src tag => some (src, [4, tag])
  | .disable src tag => some (src, [5, tag])
  | .startRun src tag => some (src, [6, tag])
  | .startTurning src tag => some (src, [7, tag])
  | .stop src tag => some (src, [8, tag])
  | .trip src tag detail => some (src, [9, tag, detail])
  | .acknowledgeTrip src tag => some (src, [10, tag])
  | .setHotStop src tag => some (src, [11, tag])
  | .clearHotStop src tag => some (src, [12, tag])
  | .clearAlarms src tag => some (src, [13, tag])
  | .annotate src tag code => some (src, [14, tag, code])
  | .readRecordHeader src tag slot => some (src, [15, tag, slot])
  | .readRecord src tag slot first count => some (src, [16, tag, slot, first, count])
  | .abortReadout src tag => some (src, [17, tag])
  | .lockRecord src tag slot => some (src, [18, tag, slot])
  | .unlockRecord src tag slot => some (src, [19, tag, slot])
  | .eraseRecords src tag => some (src, [20, tag])
  | .readRows src tag bank table first count => some (src, [21, tag, bank, table, first, count])
  | .loadRows src tag table first count rows => some (src, 22 :: tag :: table :: first :: count :: rows)
  | .activate src tag => some (src, [23, tag])
  | .discardStaged src tag => some (src, [24, tag])
  | .pinRow src tag row => some (src, [25, tag, row])
  | .releaseRow src tag => some (src, [26, tag])
  | .freezeTables src tag => some (src, [27, tag])
  | .restart src tag => some (src, [28, tag])
  | _ => none

/-- R173: a command of this asker passes the tests that come before its owning rule's. -/
abbrev State.takesFrom (s : State) (a : Asker) : Prop :=
  s.forwardingOnly = false ∧ a.addr ≠ s.rp.strap ∧ s.managerOf a.addr = some (a.manager, a.level) ∧
  s.restartPending = false ∧ (s.rqh.get a.manager).replies.length < 4 ∧ (s.rqh.get a.manager).holder.state = .free

/-- R172 to R174: the manager's holder is ANSWERING and its response has joined the tail of its reply list. -/
def State.answered (a : Asker) (kind tag : Word) (code : ResultCode) (results : List Word) (s : State) : State :=
  let x := s.rqh.get a.manager
  { s with rqh := s.rqh.set a.manager { x with
      holder := ⟨.answering, a.addr, tag⟩
      replies := x.replies ++ [⟨a.addr, kind, tag, code, results, s.cycleTag, .answer⟩] } }

/-- R173: the state in which an owning rule reads a request: the asker's holder is already ANSWERING it. -/
def State.taking (a : Asker) (tag : Word) (s : State) : State := s.setHolder a.manager ⟨.answering, a.addr, tag⟩

/-- R7: one of the producers that were ready at this fall of a place is still ready and still owed a place. -/
def State.owes (s : State) (ws : List Waiter) : Prop := ∃ w ∈ ws, w.owed = true ∧ s.producerReady w.producer = true

/-- R7: `p` became ready after the earliest fall of a place that still owes one, so it may not pass over those it is owed to. -/
def State.mustWait (s : State) (p : Producer) : Prop :=
  ∃ (l : List (List Waiter)) (ws : List Waiter) (r : List (List Waiter)), s.rp.waiters = l ++ ws :: r ∧
    (∀ x ∈ l, ¬ s.owes x) ∧ s.owes ws ∧ ∀ w ∈ ws, w.producer ≠ p

/-- R186, R192: the six words of the echo that this state gives, with R123's brake command and R114's summaries. -/
def State.echoWords (s : State) : List Word :=
  let q := s.seq
  let m := s.lim.motor
  let flag := fun (b : Bool) (k : Nat) => if b then 2 ^ k else 0
  let brake := match q.drive, q.grant with
    | .running, _ => 1
    | .turning, _ => 1
    | .stopping, _ => 1
    | .auxiliary, _ => 2
    | .tripped, .granted => 2
    | .tripped, .recalling => 2
    | _, _ => 0
  let raw := fun (x : Channel) => match x.raw with
    | .aboveWarn => 1
    | .aboveAlarm => 2
    | .belowDead => 3
    | _ => 0
  let sum := fun (f : Channel → Nat) => ((List.finRange 4).map fun k => f s.vib.channels[k] * 4 ^ k.val).sum
  [BitVec.ofNat 16 q.drive.code,
   BitVec.ofNat 16 (match s.highestPending with
    | none => 0
    | some k => k.code),
   BitVec.ofInt 16 (m.a.applied + m.b.applied),
   BitVec.ofNat 16 (flag m.a.limited 0 + flag m.b.limited 1 + 4 * brake + 16 * q.grant.code + flag q.turnDue 6 +
    flag q.turnComplete 7 + flag q.hot 8 + flag s.tru.declared 9),
   BitVec.ofNat 16 s.sched.rowInForce.val,
   BitVec.ofNat 16 (256 * sum raw + sum fun x => x.conf.state.code)]

/-- R31, R32: the checks of a validation in their order, each with whether it holds and the failure it reports; `own` is the part's
own address. -/
def Bank.checks (b : Bank) (own : Addr) : List (Bool × Failure) :=
  let within := fun (lo n hi : Nat) => lo ≤ n ∧ n ≤ hi
  let g := b.dc.g0
  let h := b.dc.g1
  let v := b.dc.g2
  let r := b.dc.g3
  let group0 := within 256 g.vlim 8192 ∧ within 256 g.imax 12288 ∧ within 257 g.iTrip 16384 ∧ within 1 g.satLimit 1000 ∧
    g.ks ≤ 255 ∧ g.trimMax ≤ 2048 ∧ g.contactBias ≤ 1024 ∧ g.imbalanceLimit ≤ 8192 ∧ within 1 g.imbalanceCycles 10000 ∧
    within 1 g.shockStep 8192 ∧ g.shockClamp ≤ 12288 ∧ within 1 g.shockHold 10000 ∧ within 1 g.shockWindow 65535 ∧
    within 1 g.shockTripCount 8 ∧ g.breakawayLimit ≤ 12288 ∧ within 1 g.breakawayCycles 65535 ∧ within 1 g.overspeed 32767 ∧
    g.imax < g.iTrip
  let group1 := within 1 h.rowWidth 4095 ∧ h.standstillSpeed ≤ 4095 ∧ within 1 h.movingSpeed 8191 ∧
    within 1 h.stopConfirm 10000 ∧ within 20 h.deadline 4000 ∧ within 1 h.markTimeout 100 ∧ within 1 h.missLimit 255 ∧
    within 1 h.refLossLimit 255 ∧ within 64 h.turnAngle 4096 ∧ within 60 h.turnInterval 7200 ∧ within 10 h.turnOverdue 3600 ∧
    within 1 h.recallTimeout 600 ∧ h.standstillSpeed < h.movingSpeed
  let group2 := within 16 v.vibWindow 1024 ∧ within 1 v.confirmWindows 16 ∧ within 1 v.releaseWindows 16 ∧
    v.persistWindows ≤ 255 ∧ v.hysteresis ≤ 255 ∧ v.derateLevel ≤ 12288 ∧ within 1 v.deadWindows 16 ∧ v.minDeadRow ≤ 31
  let group3 := r.preDepth ≤ 512 ∧ r.postDepth ≤ 512 ∧ (∀ i : Fin 15, r.priorities[i] ≤ 7) ∧ within 1 r.noticeTrigger 8 ∧
    within 1 r.noticeFlush 1000 ∧ within 1 r.segmentSize 4 ∧ r.preDepth + r.postDepth ≤ 512
  let kind := fun (x : Role) => match x with
    | .speed => SlotKind.speed
    | .ref => .reference
    | .vib _ => .vibration
    | .aux => .takeover
    | .service => .command
    | _ => .armature
  let entry := fun (i : Fin 32) =>
    let e := b.slots[i]
    e.role = .none ∨
      e.source ≠ 63 ∧ -32768 ≤ e.offset ∧ e.offset ≤ 32767 ∧ e.multiplier ≤ 65535 ∧ e.kind = kind e.role ∧
      (if e.role = .ref then e.source = 0 else e.source ≠ 0 ∧ e.source ≠ own) ∧
      ∀ j : Fin 32, j < i → b.slots[j].role ≠ .none → b.slots[j].role ≠ e.role ∧
        ¬ (b.slots[j].source = e.source ∧ b.slots[j].kind = e.kind ∧ b.slots[j].slot = e.slot)
  let row := fun (i : Fin 32) =>
    let x := b.speed[i]
    x.kp ≤ 4095 ∧ x.ki ≤ 4095 ∧ within 1024 x.flux 4096 ∧ x.fieldRef ≤ 4096 ∧ x.lmot ≤ 12288 ∧ x.lgen ≤ 12288
  let cell := fun (i : Fin 32) (k : Fin 4) =>
    let x := b.vib[i][k]
    x.alarmHi < 4294967296 ∧ x.deadLo < x.warnHi ∧ x.warnHi ≤ x.alarmHi
  [(decide group0, ⟨3, 0, 0⟩), (decide group1, ⟨3, 1, 0⟩), (decide group2, ⟨3, 2, 0⟩), (decide group3, ⟨3, 3, 0⟩)] ++
  (List.finRange 32).map (fun i => (decide (entry i), ⟨2, i.val, 0⟩)) ++
  [(decide (∀ x ∈ [Role.arm .a, .arm .b, .speed, .ref], ∃ i : Fin 32, b.slots[i].role = x), ⟨2, 32, 0⟩)] ++
  (List.finRange 32).map (fun i => (decide (row i), ⟨0, i.val, 0⟩)) ++
  (List.finRange 32).flatMap fun i => (List.finRange 4).map fun k => (decide (cell i k), ⟨1, i.val, k.val⟩)

/-- R23 to R26, R194: the words of row `r` of a table are as many as the row has, and each field they carry is in its range at load,
with zero bits 0 (notes/assumptions/16.md says which bits those are). -/
def rowInRange (t : Table) (r : Nat) (row : List Word) : Prop :=
  let within := fun (lo : Nat) (w : Word) (hi : Nat) => lo ≤ w.toNat ∧ w.toNat ≤ hi
  match t with
  | .speedSchedule =>
    match row with
    | [kp, ki, flux, fieldRef, lmot, lgen] =>
      within 0 kp 4095 ∧ within 0 ki 4095 ∧ within 1024 flux 4096 ∧ within 0 fieldRef 4096 ∧ within 0 lmot 12288 ∧
      within 0 lgen 12288
    | _ => False
  | .vibThresholds => row.length = 24
  | .slotMap =>
    match row with
    | [key, _, _] => bitsOf key 10 6 ≠ 63 ∧ bitsOf key 7 3 ≤ 5 ∧ bitsOf key 2 4 ≤ 10 ∧ key.getLsbD 0 = false
    | _ => False
  | .driveConstants =>
    match r with
    | 0 =>
      match row with
      | [vlim, imax, iTrip, satLimit, ks, trimMax, bias, imbLimit, imbCycles, step, clamp, hold, window, brkLimit, brkCycles,
          overspeed] =>
        within 256 vlim 8192 ∧ within 256 imax 12288 ∧ within 257 iTrip 16384 ∧ within 1 satLimit 1000 ∧ bitsOf ks 12 4 = 0 ∧
        1 ≤ bitsOf ks 8 4 ∧ bitsOf ks 8 4 ≤ 8 ∧ within 0 trimMax 2048 ∧ within 0 bias 1024 ∧ within 0 imbLimit 8192 ∧
        within 1 imbCycles 10000 ∧ within 1 step 8192 ∧ within 0 clamp 12288 ∧ within 1 hold 10000 ∧ within 1 window 65535 ∧
        within 0 brkLimit 12288 ∧ within 1 brkCycles 65535 ∧ within 1 overspeed 32767
      | _ => False
    | 1 =>
      match row with
      | [rowWidth, standstill, moving, stopConfirm, deadline, markTimeout, missLimit, refLoss, angle, interval, overdue,
          recallTimeout] =>
        within 1 rowWidth 4095 ∧ within 0 standstill 4095 ∧ within 1 moving 8191 ∧ within 1 stopConfirm 10000 ∧
        within 20 deadline 4000 ∧ within 1 markTimeout 100 ∧ within 1 missLimit 255 ∧ within 1 refLoss 255 ∧
        within 64 angle 4096 ∧ within 60 interval 7200 ∧ within 10 overdue 3600 ∧ within 1 recallTimeout 600
      | _ => False
    | 2 =>
      match row with
      | [window, confirm, release, persist, hysteresis, derate, dead, minDead, channels] =>
        within 16 window 1024 ∧ within 1 confirm 16 ∧ within 1 release 16 ∧ within 0 persist 255 ∧ within 0 hysteresis 255 ∧
        within 0 derate 12288 ∧ within 1 dead 16 ∧ within 0 minDead 31 ∧ bitsOf channels 9 7 = 0
      | _ => False
    | 3 =>
      match row with
      | [pre, post, _, classes, p0, p1, p2, trigger, flush, segment] =>
        within 0 pre 512 ∧ within 0 post 512 ∧ (∀ i : Fin 8, bitsOf classes (2 * i.val) 2 ≠ 3) ∧ p0.getLsbD 15 = false ∧
        p1.getLsbD 15 = false ∧ p2.getLsbD 15 = false ∧ within 1 trigger 8 ∧ within 1 flush 1000 ∧ within 1 segment 4
      | _ => False
    | _ => False

/-- R86 to R88: the converter address of motor `m`: the source of the first ARM_m entry of the active bank. -/
def State.converter (s : State) (m : Motor) : Option Addr :=
  match s.sched.active with
  | none => none
  | some b => (b.slots.toList.find? fun e => e.role == .arm m).map (·.source)

/-- R87, R88: the block frame of each motor, with voltage reference 0 and this tag and field reference, has joined the priority pair
of `u` as the Ring Port `r` shows it, in either order; a motor without an ARM entry has none. -/
def State.blocksJoin (u : State) (tag : Word) (field : Nat) (r : RingPort) : Prop :=
  let join := fun (m : Motor) (s : State) =>
    match u.converter m with
    | none => s
    | some dest => s.joinPair (makeFrame dest u.rp.strap kindDrive tag [0, 0, BitVec.ofNat 16 field])
  r = (join .b (join .a u)).rp ∨ r = (join .a (join .b u)).rp

/-- R106: what a window of channel `k` with this peak raises, in the order given. -/
def State.raiseVibration (k : Fin 4) (peak : Nat) (events : List VibEvent) (s : State) : State :=
  events.foldl (init := s) fun t e => match e with
    | .alarmEntry => t.raiseAttention ⟨.vibAlarm, 0, .channel k, peak⟩
    | .warningEntry => t.raiseAttention ⟨.vibWarning, 0, .channel k, peak⟩
    | .deadEntry => t.raiseCause .sensorDead (.channel k) peak
    | .persists => t.raiseCause .vibPersist (.channel k) peak

/-! ## Laws of the whole part -/

/-- R67, R129, R131, R142: what the drive state has to do with the declared trip, the grant, a pending takeover and a breakaway
allowance. -/
structure DriveLaw (s : State) : Prop where
  declared_iff_tripped : s.tru.declared = true ↔ s.seq.drive = .tripped
  grant_held : s.seq.grant ≠ .none → s.seq.drive = .auxiliary ∨ s.seq.drive = .tripped
  auxiliary_granted : s.seq.drive = .auxiliary → s.seq.grant ≠ .none
  pending_stopping : s.seq.pendingTakeover = true → s.seq.drive = .stopping
  allowance_started : s.lim.breakaway ≠ none → s.seq.drive = .running ∨ s.seq.drive = .turning

/-- R35: the active bank is EMPTY, with the drive state BLOCKED, or it passes validation; so does the staged bank of a pending
activation. -/
structure BankLaw (s : State) : Prop where
  empty_blocked : s.sched.active = none → s.seq.drive = .blocked
  active_valid : ∀ b, s.sched.active = some b → b.failure s.rp.strap = none
  pending_valid : s.sched.activation ≠ none → ∃ b, s.sched.staged = some b ∧ b.failure s.rp.strap = none

/-- R148, R155 to R159: a slot that is CAPTURING captures the trip now declared. -/
def CaptureLaw (s : State) : Prop :=
  (s.tru.declared = true ↔ s.seq.drive = .tripped) ∧
  ∀ k : Fin 8, s.recorder.slots[k].state = .capturing → s.seq.drive = .tripped ∧ s.recorder.currentSlot = some k

/-- R4, R6, R7, R70, R138, R153, R187: no store holds more than the manual gives it places. -/
structure StoreLaw (s : State) : Prop where
  buffer : s.rp.buffer.length ≤ 4
  pair : s.rp.pair.length ≤ 2
  queue : s.rp.queue.length ≤ 16
  shocks : s.lim.shocks.length ≤ 8
  later : s.tru.later.length ≤ 4
  history : s.recorder.history.length ≤ 1024
  notices : s.rpt.notices.length ≤ 32

/-- R46, R47, R54, R81, R92: the accumulators lie within the bounds of the bank in force, and trim is formed from its own. -/
def AccumulatorLaw (s : State) : Prop :=
  ∀ b, s.sched.active = some b →
    s.split.acc.natAbs ≤ 256 * b.dc.g0.trimMax ∧ s.split.trim = truncDiv s.split.acc 256 ∧
    s.reg.a.acc.natAbs ≤ 256 * b.dc.g0.vlim ∧ s.reg.b.acc.natAbs ≤ 256 * b.dc.g0.vlim

/-- R107: the ceilings are those the active bank and the confirmed states give, 12288 while the bank is EMPTY. -/
def CeilingLaw (s : State) : Prop :=
  s.vib.ceiling = match s.sched.active with
    | none => PerMotor.both 12288
    | some b => ⟨ceilingOf b s.vib.channels .a, ceilingOf b s.vib.channels .b⟩

/-- R146: the later causes are distinct, and none is the first cause. -/
def LaterLaw (s : State) : Prop :=
  (s.tru.later.map (·.1)).Nodup ∧ ∀ r, s.tru.first = some r → ∀ e ∈ s.tru.later, e.1 ≠ r.cause

/-- What a safe run keeps. -/
structure Safe (s : State) : Prop where
  drive : DriveLaw s
  bank : BankLaw s
  capture : CaptureLaw s
  stores : StoreLaw s
  accumulators : AccumulatorLaw s
  ceilings : CeilingLaw s
  later : LaterLaw s

end Sys2Proof.Machine
end

