-- ==== Sys2Proof/Certificates/Slice0/Obligations.lean ====
section
/-! DEFINITION. What the model is held to: statements from the numbered rules of spec/, listed in OBLIGATIONS.json. -/

open Sys2Proof Sys2Proof.Machine

/-! ## Steps and commands -/

/-- The model's own queue (notes/assumptions/1.md): a step takes the command at the front and runs it with the queue's rest. -/
def Obligations.StepTakesFront : Prop :=
  ∀ (c : Instr) (rest : List Instr) (s : State), step { s with pending := c :: rest } = exec c { s with pending := rest }

/-- The model's choice (notes/assumptions/1.md): on an empty queue a step is one microsecond of the time base. Every running timer is
one less, every other timer and all other state are kept; with no timer then at 0 nothing else happens, and with one alone at 0 its
expiry is carried out. -/
def Obligations.IdleStepCountsTime : Prop :=
  ∀ s : State, s.pending = [] →
    let t : State := { s with
      intake := { s.intake with
        deadline := match s.intake.deadline with
          | .running us => .running (us - 1)
          | x => x
        markTimer := match s.intake.markTimer with
          | .running us => .running (us - 1)
          | x => x }
      seq := { s.seq with
        turnTimer := match s.seq.turnTimer with
          | .counting us => .counting (us - 1)
          | x => x
        overdue := match s.seq.overdue with
          | .counting us => .counting (us - 1)
          | x => x
        recallTimer := match s.seq.recallTimer with
          | .counting us => .counting (us - 1)
          | x => x }
      rpt := { s.rpt with flush := match s.rpt.flush with
        | .running us => .running (us - 1)
        | x => x } }
    let timers : List (Prop × Instr) :=
      [(t.intake.deadline = .running 0, .deadlineExpiry), (t.intake.markTimer = .running 0, .markTimerExpiry),
       (t.seq.turnTimer = .counting 0, .turnTimerExpiry), (t.seq.overdue = .counting 0, .overdueTimerExpiry),
       (t.seq.recallTimer = .counting 0, .recallTimerExpiry), (t.rpt.flush = .running 0, .flushTimerExpiry)]
    ((∀ e ∈ timers, ¬ e.1) → step s = .next t) ∧
    (∀ (i : Nat) (e : Prop × Instr), timers[i]? = some e → e.1 →
      (∀ (j : Nat) (e' : Prop × Instr), timers[j]? = some e' → e'.1 → j = i) → step s = exec e.2 t)

/-- The model's reading (notes/assumptions/26.md, DEDUCED): every command answers a next state in every state. It leaves the queue's
rest (notes/assumptions/1.md) as it was. -/
def Obligations.CommandsKeepQueue : Prop := ∀ (c : Instr) (s : State), ∃ t, exec c s = .next t ∧ t.pending = s.pending

/-! ## The Ring Port (R1 to R7, R190, R191) -/

/-- R1: a frame in error is counted and does nothing else, a length error first. R2, R9, R10, R12: what becomes of a checked frame that
no block of a station reads. -/
def Obligations.FramesAreDisposed : Prop :=
  ∀ (s : State) (f : RawFrame) (c : Instr), c ∈ frameCommands f →
    let unread := { s with rp := { s.rp with unexpected := min 65535 (s.rp.unexpected + 1) } }
    ((64 < f.lengthField ∨ f.payload.length ≠ f.lengthField) →
      exec c s = .next { s with rp := { s.rp with lengthErrors := min 65535 (s.rp.lengthErrors + 1) } }) ∧
    (f.lengthField ≤ 64 → f.payload.length = f.lengthField → crc f.body ≠ f.check →
      exec c s = .next { s with rp := { s.rp with checkErrors := min 65535 (s.rp.checkErrors + 1) } }) ∧
    (cleanFrame f → s.forwardingOnly = false →
      (f.source = s.rp.strap → exec c s = .next s) ∧
      (f.source ≠ s.rp.strap → f.dest = s.rp.strap →
        f.kindCode ≠ kindCommand → f.kindCode ≠ kindTakeover → f.kindCode ≠ kindReturn → exec c s = .next unread) ∧
      (f.source ≠ s.rp.strap → f.dest = s.rp.strap → f.kindCode = kindTakeover ∨ f.kindCode = kindReturn →
        s.auxAddr ≠ some f.source → exec c s = .next unread) ∧
      (f.source ≠ s.rp.strap → f.dest = 63 → f.kindCode = kindMark → f.source ≠ 0 → exec c s = .next (s.forward f)) ∧
      (f.source ≠ s.rp.strap → f.dest = 63 → f.kindCode ≠ kindMark → s.classify f = none → exec c s = .next (s.forward f)) ∧
      (f.source ≠ s.rp.strap → f.dest ≠ s.rp.strap → f.dest ≠ 63 → exec c s = .next (s.forward f)))

/-- R3: a forwarding-only station forwards every checked frame, takes no request and produces no frame. -/
def Obligations.ForwardingOnlyForwards : Prop :=
  ∀ s : State, s.forwardingOnly = true →
    (∀ (f : RawFrame) (c : Instr), c ∈ frameCommands f → cleanFrame f → exec c s = .next (s.forward f)) ∧
    (∀ (c : Instr) (src : Addr) (ws : List Word), requestOf c = some (src, ws) → ws.length ≤ 64 →
      ∃ tag, exec c s = .next (s.drawn.forward (makeFrame s.rp.strap src kindCommand tag ws))) ∧
    (∀ c ∈ [Instr.noticeFrame, .auxFrameQueued, .recordData, .recordEnd, .responseQueued .driveMaster,
      .responseQueued .serviceStation], exec c s = .next s) ∧
    ∀ f, s.joinPair f = s

/-- R4. -/
def Obligations.ForwardingBuffer : Prop :=
  ∀ (s : State) (f : RawFrame),
    (s.rp.buffer.length < 4 → s.rp.port ≠ .idle →
      s.forward f = { s with rp := { s.rp with buffer := s.rp.buffer ++ [f] } }) ∧
    (s.rp.buffer = [] → s.rp.port = .idle → s.forward f = { s with rp := { s.rp with port := .forwarding f } }) ∧
    (4 ≤ s.rp.buffer.length →
      s.forward f = { s with rp := { s.rp with forwardOverflow := min 65535 (s.rp.forwardOverflow + 1) } }) ∧
    (s.rp.buffer.length ≤ 4 → (s.forward f).rp.buffer.length ≤ 4) ∧
    (∀ g rest, s.rp.port = .idle → s.rp.buffer = g :: rest →
      s.arbitrate = { s with rp := { s.rp with port := .forwarding g, buffer := rest } }) ∧
    s.page0[3]? = some (wordOfNat s.rp.forwardOverflow)

/-- R5, R7: at the end of a transmission that is not a Restart response's, the arbiter starts the head of the forwarding buffer, else
the older frame of the priority pair, else the oldest frame of the general transmit queue, whose place falls free only as its own
transmission ends. -/
def Obligations.ArbiterChooses : Prop :=
  ∀ s : State, s.rp.port ≠ .idle → s.sendingRestart = false →
    ∃ t, exec .transmissionEnd s = .next t ∧ t = { s with rp := t.rp } ∧
      (let q := match s.rp.port with
        | .general _ => s.rp.queue.tail
        | _ => s.rp.queue
      let r := { s.rp with queue := q, waiters := t.rp.waiters }
      t.rp = match s.rp.buffer, s.rp.pair, q with
        | f :: rest, _, _ => { r with port := .forwarding f, buffer := rest }
        | [], f :: rest, _ => { r with port := .priority f, pair := rest }
        | [], [], f :: _ => { r with port := .general f }
        | [], [], [] => { r with port := .idle })

/-- R5, R6: a drive or echo frame joining the priority pair: with nothing held and the port idle its transmission starts; the rest is
said of a busy port. -/
def Obligations.PriorityPairJoins : Prop :=
  ∀ (s : State) (f : RawFrame), s.forwardingOnly = false →
    (s.rp.port = .idle → s.rp.buffer = [] → s.rp.pair = [] →
      s.joinPair f = { s with rp := { s.rp with port := .priority f } }) ∧
    (s.rp.port ≠ .idle →
      let same := fun g : RawFrame => g.kindCode = f.kindCode ∧ g.dest = f.dest
      (∀ l g r, s.rp.pair = l ++ g :: r → same g → (∀ x ∈ l ++ r, ¬ same x) →
        s.joinPair f = { s with rp := { s.rp with
          pair := l ++ f :: r, priorityOverrun := min 65535 (s.rp.priorityOverrun + 1) } }) ∧
      ((∀ x ∈ s.rp.pair, ¬ same x) → s.rp.pair.length < 2 →
        s.joinPair f = { s with rp := { s.rp with pair := s.rp.pair ++ [f] } }) ∧
      (∀ g h, s.rp.pair = [g, h] → ¬ same g → ¬ same h →
        s.joinPair f = { s with rp := { s.rp with
          pair := [h, f], priorityOverrun := min 65535 (s.rp.priorityOverrun + 1) } }))

/-- R190: a frame built with these fields carries them at the places the rule gives, with zero bits 0, and reads back as them; a
received header reads by the same places; the kind codes run from mark 0 to record end 16. -/
def Obligations.HeaderFields : Prop :=
  (∀ (dest src : Addr) (kind : Nat) (tag : Word) (payload : List Word), kind < 32 → payload.length < 128 →
    let f := makeFrame dest src kind tag payload
    f.h0.extractLsb' 10 6 = dest ∧ f.h0.extractLsb' 4 6 = src ∧ f.h0.extractLsb' 0 4 = 0#4 ∧
    (f.h1.extractLsb' 11 5).toNat = kind ∧ f.h1.extractLsb' 7 4 = 0#4 ∧
    (f.h1.extractLsb' 0 7).toNat = payload.length ∧ f.h2 = tag ∧
    f.dest = dest ∧ f.source = src ∧ f.kindCode = kind ∧ f.lengthField = payload.length ∧ f.tag = tag) ∧
  (∀ f : RawFrame, f.dest ++ f.source ++ f.h0.extractLsb' 0 4 = f.h0 ∧
    BitVec.ofNat 5 f.kindCode ++ f.h1.extractLsb' 7 4 ++ BitVec.ofNat 7 f.lengthField = f.h1 ∧ f.tag = f.h2) ∧
  [kindMark, kindReference, kindArmature, kindSpeed, kindVibration, kindTakeover, kindReturn, kindHandover, kindDecline,
    kindRecall, kindDrive, kindEcho, kindCommand, kindResponse, kindNotice, kindRecordData, kindRecordEnd] = List.range 17

/-- R191: the frame check is the register, all ones at first, after every bit of every word, most significant first, with the
generator x^16 + x^12 + x^5 + 1. Two lists of words that differ in one word have different checks; running on over the check word
leaves the register at 0; and every frame the part builds of at most 64 payload words passes R1's two checks. -/
def Obligations.FrameCheckCloses : Prop :=
  (∀ ws : List Word, crc ws =
    (ws.flatMap fun w => (List.range 16).map fun i => w.getLsbD (15 - i)).foldl
      (fun (r : Word) (b : Bool) => if r.getLsbD 15 = b then r <<< 1 else (r <<< 1) ^^^ (1#16 + 1#16 <<< 5 + 1#16 <<< 12))
      (BitVec.allOnes 16)) ∧
  (∀ (pre post : List Word) (w w' : Word), w ≠ w' → crc (pre ++ w :: post) ≠ crc (pre ++ w' :: post)) ∧
  (∀ ws : List Word, crc (ws ++ [crc ws]) = 0) ∧
  (∀ (dest src : Addr) (kind : Nat) (tag : Word) (payload : List Word), payload.length ≤ 64 →
    cleanFrame (makeFrame dest src kind tag payload))

/-- R2, R10, R171, R193: each request row is the command frame of its request kind, tag and arguments, received whole at the part's own
address; the cycle tag of the frame is not read. -/
def Obligations.CommandFrameIsRequest : Prop :=
  ∀ (c : Instr) (src : Addr) (ws : List Word), requestOf c = some (src, ws) → ws.length ≤ 64 →
    ∀ (s : State) (tag : Word), s.forwardingOnly = false →
      exec (.frameReceived (makeFrame s.rp.strap src kindCommand tag ws)) s = exec c s

/-! ## Cycles and samples (R9 to R20) -/

/-- R12, R13: an accepted mark opens a cycle with its tag; the timers start with the durations of the bank then active, and not at all
while it is EMPTY, where the mark timer stays as it was; a tag other than the previous one plus one counts a slip. Where no deadline
expiry is owed, what the roles have latched carries over. R87: with no deadline expiry owed and no breakaway allowance running, each
converter of the bank then active is sent a block frame of the new cycle in BLOCKED, READY, AUXILIARY and TRIPPED, with the row's
field_ref in READY and AUXILIARY and else 0, and no frame in the running states. -/
def Obligations.MarkOpensCycle : Prop :=
  ∀ (s : State) (f : RawFrame) (c : Instr), c ∈ frameCommands f → s.hearsMark f →
    ∃ t, exec c s = .next t ∧
      t.intake.cycle = some f.tag ∧
      t.intake.slips = (match s.intake.cycle with
        | none => s.intake.slips
        | some p => if f.tag = p + 1 then s.intake.slips else min 65535 (s.intake.slips + 1)) ∧
      (match t.sched.active with
        | none => t.intake.deadline = .notStarted ∧ t.intake.markTimer = s.intake.markTimer
        | some b => t.intake.deadline = .running b.dc.g1.deadline ∧
            t.intake.markTimer = .running (b.dc.g1.markTimeout * 1000)) ∧
      t.intake.markLoss = false ∧ t.intake.refMade = false ∧ t.intake.regMade = ⟨false, false⟩ ∧
      t.intake.arm.a.status.taken = false ∧ t.intake.arm.b.status.taken = false ∧
      t.intake.speed.status.taken = false ∧ t.intake.ref.status.taken = false ∧
      (s.intake.deadline.isRunning = false →
        t.intake.arm = ⟨{ s.intake.arm.a with status := { s.intake.arm.a.status with taken := false } },
          { s.intake.arm.b with status := { s.intake.arm.b.status with taken := false } }⟩ ∧
        t.intake.speed = { s.intake.speed with status := { s.intake.speed.status with taken := false } } ∧
        t.intake.ref = { s.intake.ref with status := { s.intake.ref.status with taken := false } }) ∧
      (s.intake.deadline.isRunning = false → s.lim.breakaway = none →
        let u := s.forward f
        let field := match t.sched.active with
          | none => 0
          | some b => if s.seq.drive = .ready ∨ s.seq.drive = .auxiliary then b.speed[t.sched.rowInForce].fieldRef else 0
        t.seq.drive = s.seq.drive ∧
        (s.seq.drive.isRunning = true → t.rp = u.rp) ∧
        (s.seq.drive.isRunning = false → ({ u with sched := t.sched } : State).blocksJoin f.tag field t.rp))

/-- R13, R151 to R154, R158: a mark that closes an open cycle with a bank active and no deadline expiry owed writes one snapshot, of the
values standing at it as R152 lists them: to the tail of the history ring of 1024, with the pending marker, and to the capture in
progress, which it completes at post_depth, raising RECORD_DONE. Where no breakaway allowance runs, a slot that is not capturing is left
alone. -/
def Obligations.MarkWritesSnapshot : Prop :=
  ∀ (s : State) (f : RawFrame) (b : Bank), s.hearsMark f → s.intake.cycle ≠ none → s.sched.active = some b →
    s.intake.deadline.isRunning = false →
    let i := s.intake
    let m := s.lim.motor
    let v := s.vib.channels
    let summary := fun (x : Channel) => match x.raw with
      | .aboveWarn => RawSummary.warn
      | .aboveAlarm => .alarm
      | .belowDead => .dead
      | _ => .quiet
    let p : Snapshot :=
      { tag := s.cycleTag
        tref := i.ref.reference
        applied := ⟨m.a.applied, m.b.applied⟩
        iref := ⟨m.a.iref, m.b.iref⟩
        imeas := ⟨i.arm.a.current, i.arm.b.current⟩
        u := ⟨s.reg.a.output, s.reg.b.output⟩
        speed := i.speed.speed
        drive := s.seq.drive
        row := s.sched.rowInForce
        limited := ⟨m.a.limited, m.b.limited⟩
        shockClamp := ⟨m.a.clampApplied, m.b.clampApplied⟩
        breakaway := s.lim.breakawayAtRef
        saturated := ⟨s.reg.a.saturated, s.reg.b.saturated⟩
        qArm := ⟨i.arm.a.status.quality, i.arm.b.status.quality⟩
        qSpeed := i.speed.status.quality
        qRef := i.ref.status.quality
        confirmed := #v[v[0].conf.state, v[1].conf.state, v[2].conf.state, v[3].conf.state]
        raw := #v[summary v[0], summary v[1], summary v[2], summary v[3]]
        marker := s.recorder.marker.getD 0 }
    let capturing := fun k : Fin 8 =>
      s.recorder.slots[k].state = .capturing ∧ ∀ j < k, s.recorder.slots[j].state ≠ .capturing
    let completes := fun k : Fin 8 => b.dc.g3.postDepth ≤ s.recorder.slots[k].header.post + 1
    ∃ t, exec (.mark f) s = .next t ∧
      t.recorder.history =
        (if 1024 ≤ s.recorder.history.length then s.recorder.history.tail else s.recorder.history) ++ [p] ∧
      t.recorder.marker = none ∧
      (s.lim.breakaway = none → ∀ k : Fin 8,
        t.recorder.slots[k] =
          if capturing k then
            let x := s.recorder.slots[k]
            { x with
              body := x.body ++ [p]
              header := { x.header with post := x.header.post + 1 }
              state := if completes k then .complete else .capturing }
          else s.recorder.slots[k]) ∧
      (s.lim.breakaway = none → s.sched.activation = none →
        (∀ k, capturing k → completes k → t.rpt = (s.raiseAttention ⟨.recordDone, 0, .nobody, k.val⟩).rpt) ∧
        ((∀ k, capturing k → ¬ completes k) → t.rpt = s.rpt))

/-- R195: the words of a snapshot come in the rule's order, its signed values whole, and the status, quality and last words carry each
field at the bits the rule gives. -/
def Obligations.SnapshotLayout : Prop :=
  ∀ p : Snapshot,
    p.words.length = 14 ∧
    p.words.take 11 = p.tag :: [p.tref, p.applied.a, p.applied.b, p.iref.a, p.iref.b, p.imeas.a, p.imeas.b, p.u.a, p.u.b,
      p.speed].map (BitVec.ofInt 16) ∧
    (let w := wordOfNat p.statusWord
     p.words[11]? = some w ∧ bitsOf w 13 3 = p.drive.code ∧ bitsOf w 8 5 = p.row.val ∧ w.getLsbD 7 = p.limited.a ∧
     w.getLsbD 6 = p.limited.b ∧ w.getLsbD 5 = p.shockClamp.a ∧ w.getLsbD 4 = p.shockClamp.b ∧
     w.getLsbD 3 = p.breakaway ∧ w.getLsbD 2 = p.saturated.a ∧ w.getLsbD 1 = p.saturated.b ∧ w.getLsbD 0 = false) ∧
    (let w := wordOfNat p.qualityWord
     p.words[12]? = some w ∧ bitsOf w 14 2 = p.qArm.a.code ∧ bitsOf w 12 2 = p.qArm.b.code ∧
     bitsOf w 10 2 = p.qSpeed.code ∧ bitsOf w 8 2 = p.qRef.code ∧
     ∀ k : Fin 4, bitsOf w (2 * k.val) 2 = (p.confirmed[k]).code) ∧
    ∃ w, p.words[13]? = some w ∧ (p.marker < 256 → bitsOf w 8 8 = p.marker) ∧
      ∀ k : Fin 4, bitsOf w (2 * k.val) 2 = (p.raw[k]).code

/-- R15: a mapped frame of a cycle role that is not taken is forwarded, counted by the first test that holds, and changes nothing else. -/
def Obligations.SamplesDiscarded : Prop :=
  ∀ (s : State) (f : RawFrame) (b : Bank) (e : SlotEntry) (taken : Bool),
    s.hears f → s.classify f = some (b, e) → cycleTaken s.intake e f = some taken →
    let u := s.forward f
    (s.intake.cycle ≠ some f.tag →
      exec (.sampleFrame f) s = .next { u with intake := { u.intake with stale := min 65535 (u.intake.stale + 1) } }) ∧
    (s.intake.cycle = some f.tag → s.intake.deadline.isRunning = false →
      exec (.sampleFrame f) s = .next { u with intake := { u.intake with late := min 65535 (u.intake.late + 1) } }) ∧
    (s.intake.cycle = some f.tag → s.intake.deadline.isRunning = true → taken = true →
      exec (.sampleFrame f) s =
        .next { u with intake := { u.intake with duplicate := min 65535 (u.intake.duplicate + 1) } })

/-- R11, R14, R140: a take of ARM_m with fault code 0 that starts no regulation event latches the conditioned current and voltage,
FRESH, ends the converter fault condition of m, and changes nothing else. -/
def Obligations.ArmatureTaken : Prop :=
  ∀ (s : State) (f : RawFrame) (b : Bank) (e : SlotEntry) (m : Motor) (w0 w1 w2 : Word),
    s.takesSample f b e → e.role = .arm m → f.payload = [w0, w1, w2] → bitsOf w0 0 4 = 0 →
    (s.intake.refMade = false ∨ s.intake.regMade.get m = true) →
    let u := s.forward f
    let conditioned := fun w : Word => clampInt (Int.fdiv ((w.toInt + e.offset) * e.multiplier) 4096) 32767
    exec (.sampleFrame f) s = .next { u with
      intake := { u.intake with
        arm := u.intake.arm.set m ⟨conditioned w1, conditioned w2, w0.getLsbD 4, 0, ⟨.fresh, true, 0, false⟩⟩ }
      tru := { u.tru with converterFault := u.tru.converterFault.set m none } }

/-- R14, R140, R142, R144: a take of ARM_m with a fault code in a state that a trip can leave, and that starts no regulation event,
latches BAD and declares a trip with first cause CONVERTER_m. -/
def Obligations.ConverterFaultTrips : Prop :=
  ∀ (s : State) (f : RawFrame) (b : Bank) (e : SlotEntry) (m : Motor) (w0 w1 w2 : Word),
    s.takesSample f b e → e.role = .arm m → f.payload = [w0, w1, w2] → bitsOf w0 0 4 ≠ 0 →
    (s.intake.refMade = false ∨ s.intake.regMade.get m = true) →
    s.seq.drive ≠ .blocked → s.seq.drive ≠ .tripped →
    ∃ t, exec (.sampleFrame f) s = .next t ∧
      (t.intake.arm.get m).status = ⟨.bad, true, 0, false⟩ ∧ (t.intake.arm.get m).fault = bitsOf w0 0 4 ∧
      t.tru.converterFault = s.tru.converterFault.set m (some (bitsOf w0 0 4)) ∧
      t.seq.drive = .tripped ∧ t.tru.declared = true ∧ t.tru.age = 0 ∧ t.tru.later = [] ∧
      t.tru.first = some ⟨.converter m, .motor m, bitsOf w0 0 4⟩ ∧ t.tru.cycleTag = f.tag

/-- R11, R14, R39, R65, R75, R121, R122, R126: a take of SPEED latches the sample. A BAD one does nothing more. A FRESH one sets the
computed row by its magnitude and becomes the last angle; its angle step, the short way round, joins the movement, and in TURNING the
advance. Above overspeed it leaves the drive TRIPPED, but in BLOCKED. Otherwise a movement of turn_angle restarts the interval, an
advance of turn_angle completes the turn, and moving_speed ends an allowance as achieved. -/
def Obligations.SpeedTaken : Prop :=
  ∀ (s : State) (f : RawFrame) (b : Bank) (e : SlotEntry) (w0 w1 w2 : Word),
    s.takesSample f b e → e.role = .speed → f.payload = [w0, w1, w2] →
    let u := s.forward f
    let v := clampInt (Int.fdiv ((w1.toInt + e.offset) * e.multiplier) 4096) 32767
    let angle := bitsOf w2 0 12
    let bad := w0.getLsbD 0
    let x : SpeedLatch := ⟨v, angle, bad, ⟨if bad then .bad else .fresh, true, 0, false⟩⟩
    let angleStep : Int := match s.seq.lastAngle with
      | none => 0
      | some p => ((angle : Int) - p + 2048) % 4096 - 2048
    let movement := s.seq.movement + angleStep
    let advance := if s.seq.drive = .turning then s.seq.advance + angleStep else s.seq.advance
    let completes := s.seq.drive = .turning ∧ b.dc.g1.turnAngle ≤ advance.natAbs
    let moved := b.dc.g1.turnAngle ≤ movement.natAbs
    let restarted := fun (d : DriveState) =>
      if s.seq.hot = false then TurnTimer.idle
      else if d = .ready ∨ d = .auxiliary then .counting (b.dc.g1.turnInterval * 1000000)
      else .paused (b.dc.g1.turnInterval * 1000000)
    (bad = true → exec (.sampleFrame f) s = .next { u with intake := { u.intake with speed := x } }) ∧
    (bad = false → ∃ t, exec (.sampleFrame f) s = .next t ∧ t.intake = { s.intake with speed := x } ∧
      t.sched.computedRow.val = min 31 (v.natAbs / b.dc.g1.rowWidth) ∧ t.seq.lastAngle = some angle ∧
      (b.dc.g0.overspeed < v.natAbs → s.seq.drive ≠ .blocked → t.seq.drive = .tripped) ∧
      (v.natAbs ≤ b.dc.g0.overspeed →
        t.seq.advance = advance ∧
        (¬ completes →
          t.lim = (if s.lim.breakaway ≠ none ∧ b.dc.g1.movingSpeed ≤ v.natAbs then
            { s.lim with breakaway := none, outcome := .achieved } else s.lim) ∧
          (s.seq.drive ≠ .stopping → t.seq = { s.seq with
            lastAngle := some angle
            advance := advance
            movement := if moved then 0 else movement
            turnTimer := if moved then restarted s.seq.drive else s.seq.turnTimer
            turnDue := if moved then false else s.seq.turnDue
            overdue := if moved then .stopped else s.seq.overdue }) ∧
          (s.seq.drive = .stopping → t.seq.movement = if moved then 0 else movement)) ∧
        (completes → s.intake.markLoss = false →
          t.lim.breakaway = none ∧ t.seq = { s.seq with
            drive := .stopping
            stopCount := 0
            turnComplete := true
            lastAngle := some angle
            advance := advance
            movement := 0
            turnTimer := restarted .stopping
            turnDue := false
            overdue := .stopped })))

/-- R14, R16: a take of REF with no armature taken makes the reference event; the reference is 0 without run-permit. R57 to R59: base
limits, vibration ceiling and shock clamp. R53, R63: outside the running states shares, torques and current references are zero. R44 to
R49, R56, R60, R61: in them the reference is split, trimmed and biased, clamped to the limits, and made current references within ±Imax.
R51, R52: an updating event counts an imbalance, and raises IMBALANCE as it brings the count to imbalance_cycles. R62: a motor
that becomes limited raises TORQUE_LIMIT with its T - T', and one that stays limited nothing. That the limits of an
event that so trips are those before the trip, an allowance among them, is the model's reading (notes/assumptions/13.md, DEDUCED). -/
def Obligations.ReferenceEvents : Prop :=
  ∀ (s : State) (f : RawFrame) (b : Bank) (e : SlotEntry) (w0 w1 : Word),
    s.takesSample f b e → e.role = .ref → f.payload = [w0, w1] → s.intake.refMade = false →
    s.intake.arm.a.status.taken = false → s.intake.arm.b.status.taken = false →
    let u := s.forward f
    let g := b.dc.g0
    let row := b.speed[s.sched.rowInForce]
    let tref : Int := if w0.getLsbD 0 then (if w1.toInt = -32768 then -32767 else w1.toInt) else 0
    let allowance := s.lim.breakaway ≠ none
    let clamped := fun (m : Motor) => 0 < (s.lim.motor.get m).hold ∧ ¬ allowance
    let mot := fun (m : Motor) =>
      let x := min (if allowance then g.breakawayLimit else row.lmot) (s.vib.ceiling.get m)
      if clamped m then min x g.shockClamp else x
    let gen := fun (m : Motor) =>
      let x := min row.lgen (s.vib.ceiling.get m)
      if clamped m then min x g.shockClamp else x
    (s.seq.drive.isRunning = false →
      let idle := fun (m : Motor) => { s.lim.motor.get m with
        lmotEff := mot m, lgenEff := gen m, clampApplied := if clamped m then true else false
        applied := 0, limited := false, iref := 0 }
      exec (.sampleFrame f) s = .next { u with
        intake := { u.intake with ref := ⟨tref, ⟨.fresh, true, 0, false⟩⟩, refMade := true }
        lim := { u.lim with breakawayAtRef := u.lim.breakaway.isSome, motor := ⟨idle .a, idle .b⟩ }
        split := { u.split with prevLimited := ⟨false, false⟩, lastSplit := ⟨0, 0⟩ } }) ∧
    (s.seq.drive.isRunning = true →
      let ia := s.intake.arm.a.current
      let ib := s.intake.arm.b.current
      let held := s.split.prevLimited.a || s.split.prevLimited.b || s.intake.arm.a.status.quality != .fresh ||
        s.intake.arm.b.status.quality != .fresh || s.seq.drive == .turning
      let acc := if held then s.split.acc
        else clampInt (s.split.acc + g.ks * (ib - ia)) (256 * g.trimMax)
      let ta := Int.tdiv tref 2 + Int.tdiv acc 256 + (if s.seq.drive = .turning then (g.contactBias : Int) else 0)
      let diff := (ia - ib).natAbs
      let count := if held then s.split.imbalanceCount
        else if g.imbalanceLimit < diff then min g.imbalanceCycles (s.split.imbalanceCount + 1) else 0
      let raised := held = false ∧ s.split.imbalanceCount < g.imbalanceCycles ∧ count = g.imbalanceCycles
      let cls := b.dc.g3.classes[7]
      ∃ t, exec (.sampleFrame f) s = .next t ∧ t.intake.refMade = true ∧ t.intake.ref.reference = tref ∧
        t.split.acc = acc ∧ t.split.trim = Int.tdiv acc 256 ∧
        t.split.lastSplit = ⟨ta, tref - ta⟩ ∧ t.split.lastSplit.a + t.split.lastSplit.b = tref ∧
        t.split.prevLimited = ⟨t.lim.motor.a.limited, t.lim.motor.b.limited⟩ ∧
        (∀ m : Motor, (t.lim.motor.get m).lmotEff = mot m ∧ (t.lim.motor.get m).lgenEff = gen m ∧
          (t.lim.motor.get m).applied = max (-(gen m : Int)) (min (t.split.lastSplit.get m) (mot m)) ∧
          ((t.lim.motor.get m).limited = true ↔ (t.lim.motor.get m).applied ≠ t.split.lastSplit.get m) ∧
          (t.lim.motor.get m).iref = clampInt (Int.tdiv ((t.lim.motor.get m).applied * 4096) row.flux) g.imax ∧
          (t.lim.motor.get m).iref.natAbs ≤ g.imax) ∧
        t.split.imbalanceCount = count ∧
        (raised → cls = .trip → t.seq.drive = .tripped ∧
          t.tru.first = some ⟨.imbalance, .motor (if ia.natAbs < ib.natAbs then .b else .a), diff⟩) ∧
        (raised → cls = .warn → t.rpt.attention[Attention.imbalance.index] = true) ∧
        (¬ (raised ∧ cls = .trip) → t.seq = s.seq ∧ t.tru.first = s.tru.first) ∧
        (let newly := fun (m : Motor) => (t.lim.motor.get m).limited = true ∧ s.split.prevLimited.get m = false
         let warned := fun (m : Motor) (x : State) => x.raiseAttention ⟨.torqueLimit, 0, .motor m,
          max (-32768) (min 32767 (t.split.lastSplit.get m - (t.lim.motor.get m).applied))⟩
         (∀ m, newly m → t.rpt.attention[Attention.torqueLimit.index] = true) ∧
         (¬ raised →
          (¬ newly .a → ¬ newly .b → t.rpt = s.rpt) ∧
          (newly .a → ¬ newly .b → t.rpt = (warned .a s).rpt) ∧
          (¬ newly .a → newly .b → t.rpt = (warned .b s).rpt) ∧
          (newly .a → newly .b → t.rpt = (warned .b (warned .a s)).rpt ∨ t.rpt = (warned .a (warned .b s)).rpt))))

/-- R79 to R86, R68 to R73, R108: a take of ARM_m without fault that makes the regulation event of m. In a running state it regulates:
saturation count and cause, overcurrent condition and cause, measured torque, shock and what the shock does; with none of these causes
its state is said whole, with the enabled drive frame. R89: in the other states it does not regulate. R185, R186: the event that
completes the pair produces the echo. The flux is that of the row in force as the event begins, also where the event's own trip ends a
row pin: the model's reading (notes/assumptions/29.md, DEDUCED). -/
def Obligations.ArmatureRegulates : Prop :=
  ∀ (s : State) (f : RawFrame) (b : Bank) (e : SlotEntry) (m : Motor) (w0 w1 w2 : Word),
    s.takesSample f b e → e.role = .arm m → f.payload = [w0, w1, w2] → bitsOf w0 0 4 = 0 →
    s.intake.refMade = true → s.intake.regMade.get m = false →
    let u := s.forward f
    let g := b.dc.g0
    let row := b.speed[s.sched.rowInForce]
    let r := s.reg.get m
    let lim := s.lim.motor.get m
    let i := clampInt (Int.fdiv ((w1.toInt + e.offset) * e.multiplier) 4096) 32767
    let volts := clampInt (Int.fdiv ((w2.toInt + e.offset) * e.multiplier) 4096) 32767
    let x := regulateLoop r.acc row.kp row.ki g.vlim lim.iref i
    let tmeas := Int.tdiv (i * row.flux) 4096
    let count := if x.flagged then min 1000 (r.satCount + 1) else 0
    let saturates := x.flagged = true ∧ g.satLimit ≤ count ∧ r.satRaised = false
    let excess := g.iTrip < i.natAbs
    let shock : Bool := match lim.prevTorque with
      | none => false
      | some p => p.quality = .fresh ∧ p.age = 1 ∧ g.shockStep < (tmeas - p.value).natAbs
    let shocks := (if 8 ≤ s.lim.shocks.length then s.lim.shocks.tail else s.lim.shocks) ++ [⟨m, f.tag, 0⟩]
    let tripClass := fun (k : Fin 8) => b.dc.g3.classes[k] = .trip
    let satIndex : Fin 8 := match m with
      | .a => 0
      | .b => 1
    let declared := fun (c : Cause) (d : Int) (t : State) => t.seq.drive = .tripped ∧ t.tru.first = some ⟨c, .motor m, d⟩
    let sat := match m with
      | .a => Cause.saturationA
      | .b => Cause.saturationB
    let overcurrent := match m with
      | .a => Cause.overcurrentA
      | .b => Cause.overcurrentB
    let made := s.intake.regMade.set m true
    let after := fun (r' : Regulator) (p : Option MeasuredTorque) => ({ u with
      intake := { u.intake with
        arm := u.intake.arm.set m ⟨i, volts, w0.getLsbD 4, 0, ⟨.fresh, true, 0, false⟩⟩
        regMade := made }
      tru := { u.tru with converterFault := u.tru.converterFault.set m none }
      reg := u.reg.set m r'
      lim := { u.lim with motor := u.lim.motor.set m { lim with prevTorque := p } } } : State)
    let echoed := fun (t : State) =>
      if made = ⟨true, true⟩ then t.joinPair (makeFrame 0 s.rp.strap kindEcho f.tag t.echoWords) else t
    (s.seq.drive.isRunning = true →
      (¬ saturates → ¬ excess → shock = false → ∀ dest, b.armAddr m = some dest →
        exec (.sampleFrame f) s = .next (echoed ((after
          { r with
            acc := x.acc, output := x.output, saturated := x.flagged, satCount := count
            satRaised := x.flagged && r.satRaised, overcurrent := false }
          (some ⟨tmeas, .fresh, 0⟩)).joinPair
          (makeFrame dest s.rp.strap kindDrive f.tag [1, wordOfInt x.output, wordOfNat row.fieldRef])))) ∧
      ∃ t, exec (.sampleFrame f) s = .next t ∧ t.intake.regMade = made ∧ (t.reg.get m).acc = x.acc ∧
        (t.reg.get m).satCount = count ∧
        ((t.reg.get m).satRaised = true ↔ x.flagged = true ∧ (r.satRaised = true ∨ g.satLimit ≤ count)) ∧
        ((t.reg.get m).overcurrent = true ↔ excess) ∧
        (t.lim.motor.get m).prevTorque = some ⟨tmeas, .fresh, 0⟩ ∧
        (shock = false → t.lim.shocks = s.lim.shocks ∧ (t.lim.motor.get m).hold = lim.hold ∧
          (t.lim.motor.get m).reloaded = lim.reloaded ∧ (t.lim.motor.get m).shockCount = lim.shockCount) ∧
        (shock = true → t.lim.shocks = shocks ∧ (t.lim.motor.get m).hold = g.shockHold ∧
          (t.lim.motor.get m).reloaded = true ∧ (t.lim.motor.get m).shockCount = min 65535 (lim.shockCount + 1) ∧
          t.rpt.attention[Attention.shock.index] = true) ∧
        (∀ k : Fin 4, t.vib.channels[k] =
          if shock = true ∧ b.dc.g2.pinion[k] = m ∧ b.dc.g2.discardOnShock[k] = true then
            { s.vib.channels[k] with
              window := ⟨0, 0, 0, 0, 0, 0⟩, discarded := min 65535 (s.vib.channels[k].discarded + 1) }
          else s.vib.channels[k]) ∧
        (let satTrips := saturates ∧ tripClass satIndex
         let repeats := shock = true ∧ g.shockTripCount ≤ shocks.length ∧ tripClass 2
         (satTrips → declared sat x.output t) ∧
         (saturates → b.dc.g3.classes[satIndex] = .warn → t.rpt.attention[Attention.saturation.index] = true) ∧
         (¬ satTrips → excess → declared overcurrent i t) ∧
         (¬ satTrips → ¬ excess → repeats → declared .shockRepeat shocks.length t) ∧
         (¬ satTrips → ¬ excess → ¬ repeats → t.seq = s.seq ∧ t.tru.first = s.tru.first))) ∧
    (s.seq.drive.isRunning = false →
      let quiet := fun (o : Bool) =>
        after { r with output := 0, saturated := false, satCount := 0, satRaised := false, overcurrent := o } none
      (¬ excess → exec (.sampleFrame f) s = .next (echoed (quiet false))) ∧
      (excess → ∃ t, exec (.sampleFrame f) s = .next t ∧ t.reg = (quiet true).reg ∧ t.lim.motor = (quiet true).lim.motor ∧
        (s.seq.drive = .ready ∨ s.seq.drive = .auxiliary → declared overcurrent i t) ∧
        (s.seq.drive = .blocked ∨ s.seq.drive = .tripped → t.seq = s.seq ∧ t.tru.first = s.tru.first)))

/-- R79 to R82: the regulation of one event. The output is bounded by ±Vlim and the accumulator stays within ±256 × Vlim; integration is
held, and flagged, exactly when the candidate output passes Vlim in the error's direction. -/
def Obligations.RegulationBounded : Prop :=
  ∀ (acc : Int) (kp ki vlim : Nat) (iref imeas : Int), acc.natAbs ≤ 256 * vlim →
    let x := regulateLoop acc kp ki vlim iref imeas
    let e := clampInt (iref - imeas) 32767
    let p := Int.tdiv (kp * e) 256
    let u := p + Int.tdiv (acc + ki * e) 256
    let held := (vlim : Int) < u.natAbs ∧ (0 < e ∧ 0 < u ∨ e < 0 ∧ u < 0)
    x.output.natAbs ≤ vlim ∧ x.acc.natAbs ≤ 256 * vlim ∧
    x.output = max (-(vlim : Int)) (min (p + Int.tdiv x.acc 256) vlim) ∧
    (held → x.acc = acc ∧ x.flagged = true) ∧
    (¬ held → x.acc = max (-(256 * vlim : Int)) (min (acc + ki * e) (256 * vlim))) ∧
    (x.flagged = false ↔ ¬ held ∧ x.acc = acc + ki * e ∧ x.output = p + Int.tdiv x.acc 256)

/-- R17, R18: at the expiry of a running deadline timer with a bank active, each cycle role not taken becomes HELD with one more miss, those
taken stay, the reference event and both regulation events stand as made, and the timer is expired. A role's loss condition stands where
its miss count has reached its limit; SAMPLE_LOSS and REFERENCE_LOSS are then raised. R185, R186: where a regulation event was owed, the
echo of the state after the expiry is at the head of the priority path or waits in the pair. That a condition is held as a flag from the
expiry on is the model's reading (notes/assumptions/10.md, DEDUCED). -/
def Obligations.DeadlineExpires : Prop :=
  ∀ (s : State) (b : Bank), s.intake.deadline.isRunning = true → s.sched.active = some b →
    let i := s.intake
    let misses := fun (r : RoleStatus) => if r.taken then r.miss else min 255 (r.miss + 1)
    let missed := fun (limit : Nat) (r r' : RoleStatus) =>
      r'.quality = (if r.taken then r.quality else .held) ∧ r'.miss = misses r ∧ (r'.lossStands = true ↔ limit ≤ misses r)
    let limit := b.dc.g1.missLimit
    let largest := max (max (misses i.arm.a.status) (misses i.arm.b.status)) (misses i.speed.status)
    let sampleLoss := limit ≤ largest
    let refLoss := b.dc.g1.refLossLimit ≤ misses i.ref.status
    let trips := s.seq.drive ≠ .blocked ∧ s.seq.drive ≠ .tripped
    let sampleRecord : CauseRecord := ⟨.sampleLoss, .nobody, largest⟩
    let refRecord : CauseRecord := ⟨.referenceLoss, .nobody, misses i.ref.status⟩
    let refTrips := refLoss ∧ b.dc.g3.classes[6] = .trip
    ∃ t, exec .deadlineExpiry s = .next t ∧
      t.intake.deadline = .expired ∧ t.intake.refMade = true ∧ t.intake.regMade = ⟨true, true⟩ ∧
      (∀ m : Motor, (t.intake.arm.get m).current = (s.intake.arm.get m).current ∧
        missed limit (s.intake.arm.get m).status (t.intake.arm.get m).status) ∧
      t.intake.speed.speed = s.intake.speed.speed ∧ missed limit s.intake.speed.status t.intake.speed.status ∧
      t.intake.ref.reference = s.intake.ref.reference ∧
      missed b.dc.g1.refLossLimit s.intake.ref.status t.intake.ref.status ∧
      t.intake.cycle = s.intake.cycle ∧ t.sched.active = s.sched.active ∧
      (trips → sampleLoss → ¬ refTrips → t.seq.drive = .tripped ∧ t.tru.first = some sampleRecord) ∧
      (trips → ¬ sampleLoss → refTrips → t.seq.drive = .tripped ∧ t.tru.first = some refRecord) ∧
      (trips → sampleLoss → refTrips → t.seq.drive = .tripped ∧
        (t.tru.first = some sampleRecord ∨ t.tru.first = some refRecord)) ∧
      (s.seq.drive = .blocked → sampleLoss → s.tru.standing.sampleLoss = false →
        t.rpt.attention[Attention.linkQuality.index] = true) ∧
      (refLoss → s.tru.standing.referenceLoss = false →
        b.dc.g3.classes[6] = .warn ∨ b.dc.g3.classes[6] = .trip ∧ s.seq.drive = .blocked →
        t.rpt.attention[Attention.linkQuality.index] = true) ∧
      (s.forwardingOnly = false → s.intake.regMade ≠ ⟨true, true⟩ →
        ∃ f, (t.rp.port = .priority f ∨ f ∈ t.rp.pair) ∧ f = makeFrame 0 s.rp.strap kindEcho s.cycleTag t.echoWords)

/-- R19: the expiry of a running mark timer first carries out a deadline expiry still owed. With none owed it records the mark-loss
condition and stops the timer. In READY, BLOCKED and AUXILIARY it raises LINK_QUALITY and no cause; in a running state it declares a
trip with first cause CYCLE_LOST; in TRIPPED it raises CYCLE_LOST, and a capture in progress ends TRUNCATED with RECORD_DONE (R159).
That the timer is then STOPPED is the model's reading (notes/assumptions/12.md, DEDUCED). -/
def Obligations.MarkTimerExpires : Prop :=
  ∀ (s : State) (us : Nat), s.intake.markTimer = .running us →
    (s.intake.deadline.isRunning = true → ∃ d, exec .deadlineExpiry s = .next d ∧ d.intake.deadline = .expired ∧
      d.intake.markTimer = .running us ∧ exec .markTimerExpiry s = exec .markTimerExpiry d) ∧
    (s.intake.deadline.isRunning = false →
      let u : State := { s with intake := { s.intake with markLoss := true, markTimer := .stopped } }
      ((s.seq.drive = .blocked ∨ s.seq.drive = .ready ∨ s.seq.drive = .auxiliary) →
        exec .markTimerExpiry s = .next (u.raiseAttention ⟨.linkQuality, 0, .nobody, 0⟩)) ∧
      (s.seq.drive.isRunning = true → ∃ t, exec .markTimerExpiry s = .next t ∧ t.intake = u.intake ∧
        t.seq.drive = .tripped ∧ t.tru.first = some ⟨.cycleLost, .nobody, 0⟩) ∧
      (s.seq.drive = .tripped → ∃ t, exec .markTimerExpiry s = .next t ∧ t = u.raiseCause .cycleLost .nobody 0 ∧
        t.intake = u.intake ∧ t.seq = s.seq ∧ t.tru.standing.cycleLost = true ∧
        ∀ k : Fin 8, s.recorder.slots[k].state = .capturing → (∀ j < k, s.recorder.slots[j].state ≠ .capturing) →
          t.recorder.slots[k].state = .truncated ∧ t.rpt.attention[Attention.recordDone.index] = true))

/-- R19, R115, R116: a Start Run, Start Turning or Stop taken while a mark-loss condition stands trips the drive at once with CYCLE_LOST. -/
def Obligations.MarkLossTripsEntry : Prop :=
  ∀ (s : State) (a : Asker) (tag : Word), s.takesFrom a → a.manager = .driveMaster → s.intake.markLoss = true →
    ∀ c : Instr,
      (c = .startRun a.addr tag ∧ (s.seq.drive = .ready ∨ s.seq.drive = .stopping) ∨
        c = .startTurning a.addr tag ∧ s.seq.drive = .ready ∨
        c = .stop a.addr tag ∧ (s.seq.drive = .running ∨ s.seq.drive = .turning)) →
      ∃ t, exec c s = .next t ∧ t.seq.drive = .tripped ∧ t.tru.first = some ⟨.cycleLost, .nobody, 0⟩ ∧
        t.lim.breakaway = none

/-! ## The schedule banks (R27 to R42) -/

/-- R27, R28: Load Rows, by the tests of the rule in their order. A load taken goes into the staged bank, a bank of zero tables where
that is EMPTY, and its table joins the dirty set; nothing else changes. R23 to R26, R194: words are taken as rows exactly where they are
that many rows, each of its row's size with every field in its range. That a table code above 3 is refused with the arguments, and
which bits of a row are zero bits, are the model's readings (notes/assumptions/9.md and 16.md, DEDUCED). -/
def Obligations.LoadRowsTaken : Prop :=
  ∀ (s : State) (a : Asker) (tag table first count : Word) (rows : List Word), s.takesFrom a → rows.length ≤ 59 →
    let base := s.sched.staged.getD Bank.zero
    let answers := fun (code : ResultCode) (u : State) =>
      exec (.loadRows a.addr tag table first count rows) s = .next (u.answered a 22 tag code [])
    (∀ (b : Bank) (t : Table) (r n : Nat) (ws : List Word), r + n ≤ t.rows →
      (b.loadRows t r n ws ≠ none ↔ ∃ l : List (List Word), l.length = n ∧ l.flatten = ws ∧
        ∀ (i : Nat) (row : List Word), l[i]? = some row → rowInRange t (r + i) row)) ∧
    (a.level = .operate → answers .refusedAccess s) ∧
    (a.level = .commission → s.sched.frozen = true → answers .frozen s) ∧
    (a.level = .commission → s.sched.frozen = false → s.sched.activation ≠ none → answers .busy s) ∧
    (a.level = .commission → s.sched.frozen = false → s.sched.activation = none →
      (3 < table.toNat → answers .badArgument s) ∧
      ∀ t, Table.ofCode table.toNat = some t →
        ((count.toNat = 0 ∨ t.maxCount < count.toNat ∨ t.rows < first.toNat + count.toNat ∨
            base.loadRows t first.toNat count.toNat rows = none) → answers .badArgument s) ∧
        ∀ b, 1 ≤ count.toNat → count.toNat ≤ t.maxCount → first.toNat + count.toNat ≤ t.rows →
          base.loadRows t first.toNat count.toNat rows = some b →
          answers .done { s with sched := { s.sched with staged := some b, dirty := s.sched.dirty.add t } })

/-- R27, R29, R194: rows loaded are read back word for word (a row with a bit that the tables leave unused set is not loaded, the
model's reading: notes/assumptions/16.md, DEDUCED), every other row of every table stays as it was, and the words carried are
as many as the rows hold. -/
def Obligations.LoadedRowsReadBack : Prop :=
  ∀ (b b' : Bank) (t : Table) (first n : Nat) (ws : List Word), first + n ≤ t.rows → b.loadRows t first n ws = some b' →
    b'.rowsWords t first n = ws ∧
    (∀ (t' : Table) (r : Nat), r < t'.rows → (t' ≠ t ∨ r < first ∨ first + n ≤ r) → b'.rowWords t' r = b.rowWords t' r) ∧
    ws.length = ((List.range n).map fun i => t.rowSize (first + i)).sum

/-- R29: Read Rows of either bank, at any level, frozen or not, with an activation pending or not. -/
def Obligations.ReadRowsTaken : Prop :=
  ∀ (s : State) (a : Asker) (tag bank table first count : Word), s.takesFrom a →
    let answers := fun (code : ResultCode) (ws : List Word) =>
      exec (.readRows a.addr tag bank table first count) s = .next (s.answered a 21 tag code ws)
    (1 < bank.toNat ∨ 3 < table.toNat → answers .badArgument []) ∧
    ∀ t, bank.toNat ≤ 1 → Table.ofCode table.toNat = some t →
      let named := if bank.toNat = 0 then s.sched.active else s.sched.staged
      (count.toNat = 0 ∨ t.maxCount < count.toNat ∨ t.rows < first.toNat + count.toNat → answers .badArgument []) ∧
      (1 ≤ count.toNat → count.toNat ≤ t.maxCount → first.toNat + count.toNat ≤ t.rows →
        (named = none → answers .refusedState []) ∧
        ∀ b, named = some b → answers .done ([bank, table, first, count] ++ b.rowsWords t first.toNat count.toNat))

/-- R30. -/
def Obligations.StagedDiscarded : Prop :=
  ∀ (s : State) (a : Asker) (tag : Word), s.takesFrom a →
    let answers := fun (code : ResultCode) (u : State) => exec (.discardStaged a.addr tag) s = .next (u.answered a 24 tag code [])
    (a.level = .operate → answers .refusedAccess s) ∧
    (a.level = .commission → s.sched.frozen = true → answers .frozen s) ∧
    (a.level = .commission → s.sched.frozen = false → s.sched.activation ≠ none → answers .busy s) ∧
    (a.level = .commission → s.sched.frozen = false → s.sched.activation = none →
      answers .done { s with sched := { s.sched with
        staged := s.sched.active, dirty := ⟨false, false, false, false⟩ } })

/-- R33: Activate, by the tests of the rule in their order; refused, nothing but the request's own answer changes. R35, R36, R54, R92:
validated in BLOCKED, the swap is made and answered at once. The staged bank becomes active, the generation rises, the accumulators are
clamped to the new bounds, and TABLE_ACTIVATED is raised. R107, R112: a channel whose VIB entry's key has changed has its engine reset,
and the ceilings are re-formed. In the other states it becomes PENDING with no response. R31, R32: the failure is the first of the
checks in their order. -/
def Obligations.ActivateTaken : Prop :=
  ∀ (s : State) (a : Asker) (tag : Word), s.takesFrom a →
    let answers := fun (code : ResultCode) (ws : List Word) =>
      exec (.activate a.addr tag) s = .next (s.answered a 23 tag code ws)
    let key := fun (x : Option Bank) (k : Fin 4) => x.bind fun b =>
      (b.slots.toList.find? fun e => e.role = .vib k).map fun e => (e.source, e.kind, e.slot)
    (∀ (b : Bank) (own : Addr), b.failure own = ((b.checks own).find? fun c => c.1 = false).map (·.2)) ∧
    (a.level = .operate → answers .refusedAccess []) ∧
    (a.level = .commission → s.sched.frozen = true → answers .frozen []) ∧
    (a.level = .commission → s.sched.frozen = false → s.sched.activation ≠ none → answers .busy []) ∧
    (a.level = .commission → s.sched.frozen = false → s.sched.activation = none →
      (s.seq.drive = .tripped → answers .refusedState []) ∧
      (s.sched.dirty.slotMap = true ∨ s.sched.dirty.driveConstants = true → s.seq.drive ≠ .blocked → s.seq.drive ≠ .tripped →
        answers .refusedState []) ∧
      (s.seq.drive ≠ .tripped → s.sched.dirty.slotMap = false ∧ s.sched.dirty.driveConstants = false ∨ s.seq.drive = .blocked →
        (∀ x : Failure, (s.sched.staged.getD Bank.zero).failure s.rp.strap = some x →
          answers .invalidTable [wordOfNat x.table, wordOfNat x.row, wordOfNat x.channel]) ∧
        ∀ b : Bank, s.sched.staged = some b → b.failure s.rp.strap = none →
          (s.seq.drive = .blocked →
            let generation := (s.sched.generation + 1) % 4294967296
            let acc := clampInt s.split.acc (256 * b.dc.g0.trimMax)
            let swapped := fun r : Regulator => { r with acc := clampInt r.acc (256 * b.dc.g0.vlim) }
            ∃ t : State, exec (.activate a.addr tag) s = .next (t.answered a 23 tag .done []) ∧
              t = { s with vib := t.vib, sched := t.sched, split := t.split, reg := t.reg, rpt := t.rpt } ∧
              t.sched = { s.sched with active := some b, dirty := ⟨false, false, false, false⟩, generation := generation } ∧
              t.split = { s.split with acc := acc, trim := Int.tdiv acc 256 } ∧
              t.reg = ⟨swapped s.reg.a, swapped s.reg.b⟩ ∧
              (∀ k : Fin 4, t.vib.channels[k] =
                if key s.sched.active k = key (some b) k then s.vib.channels[k]
                else { s.vib.channels[k] with lastSeq := none, tracker := none, window := ⟨0, 0, 0, 0, 0, 0⟩ }) ∧
              (∀ m : Motor, t.vib.ceiling.get m =
                if ∃ k : Fin 4, b.dc.g2.pinion[k] = m ∧ s.vib.channels[k].conf.state = .alarm then b.dc.g2.derateLevel
                else 12288) ∧
              t.rpt.attention = s.rpt.attention.set Attention.tableActivated.index true ∧
              (s.rpt.notices.length < 32 → t.rpt.notices =
                s.rpt.notices ++ [⟨.tableActivated, 0, s.cycleTag, .nobody, (generation % 65536 : Nat)⟩])) ∧
          (s.seq.drive ≠ .blocked → exec (.activate a.addr tag) s = .next { s with
            sched := { s.sched with activation := some a.manager }
            rqh := s.rqh.set a.manager { s.rqh.get a.manager with holder := ⟨.waitingSwap, a.addr, tag⟩ } })))

/-- R34, R13: an accepted mark with no deadline expiry owed completes a PENDING activation. The swap is made, DONE is answered at the
address recorded, and the new cycle opens with the new bank. The model's readings, both DEDUCED: so it is at a first mark with no cycle to
close (notes/assumptions/21.md), and an answer that finds four responses waiting joins as a fifth (notes/assumptions/20.md). -/
def Obligations.PendingSwapAtMark : Prop :=
  ∀ (s : State) (f : RawFrame) (m : Manager) (b : Bank), s.hearsMark f → s.intake.deadline.isRunning = false →
    s.sched.activation = some m → s.sched.staged = some b →
    let x := s.rqh.get m
    ∃ t, exec (.pendingActivationSwap f) s = .next t ∧
      t.sched.active = some b ∧ t.sched.staged = some b ∧ t.sched.activation = none ∧ t.sched.dirty = DirtySet.empty ∧
      t.sched.generation = (s.sched.generation + 1) % 4294967296 ∧
      t.split.acc = clampInt s.split.acc (256 * b.dc.g0.trimMax) ∧ t.split.trim = Int.tdiv t.split.acc 256 ∧
      t.reg.a.acc = clampInt s.reg.a.acc (256 * b.dc.g0.vlim) ∧ t.reg.b.acc = clampInt s.reg.b.acc (256 * b.dc.g0.vlim) ∧
      t.rqh = s.rqh.set m { x with
        holder := { x.holder with state := .answering }
        replies := x.replies ++ [⟨x.holder.addr, 23, x.holder.tag, .done, [], s.cycleTag, .answer⟩] } ∧
      t.intake.cycle = some f.tag ∧ t.intake.deadline = .running b.dc.g1.deadline

/-- R38, R41, R42: Freeze Tables, Pin Row and Release Row, by the tests of their rules. -/
def Obligations.FreezePinRelease : Prop :=
  ∀ (s : State) (a : Asker) (tag row : Word), s.takesFrom a →
    (a.level = .operate →
      exec (.freezeTables a.addr tag) s = .next (s.answered a 27 tag .refusedAccess []) ∧
      exec (.pinRow a.addr tag row) s = .next (s.answered a 25 tag .refusedAccess []) ∧
      exec (.releaseRow a.addr tag) s = .next (s.answered a 26 tag .refusedAccess [])) ∧
    (a.level = .commission →
      (s.sched.active = none → exec (.freezeTables a.addr tag) s = .next (s.answered a 27 tag .refusedState [])) ∧
      (s.sched.active ≠ none → exec (.freezeTables a.addr tag) s =
        .next (State.answered a 27 tag .done [] { s with sched := { s.sched with frozen := true } })) ∧
      (exec (.releaseRow a.addr tag) s =
        .next (State.answered a 26 tag .done [] { s with sched := { s.sched with pin := none } })) ∧
      (s.sched.frozen = true → exec (.pinRow a.addr tag row) s = .next (s.answered a 25 tag .frozen [])) ∧
      (s.sched.frozen = false → 32 ≤ row.toNat →
        exec (.pinRow a.addr tag row) s = .next (s.answered a 25 tag .badArgument [])) ∧
      (s.sched.frozen = false → ∀ r : Fin 32, row.toNat = r.val →
        let allowed := s.sched.active ≠ none ∧ (s.seq.drive = .blocked ∨ s.seq.drive = .ready ∨ s.seq.drive = .turning)
        (¬ allowed → exec (.pinRow a.addr tag row) s = .next (s.answered a 25 tag .refusedState [])) ∧
        (allowed → ∃ t : State, exec (.pinRow a.addr tag row) s = .next (t.answered a 25 tag .done []) ∧
          t = { s with sched := { s.sched with pin := some r } } ∧ t.row = r)))

/-! ## The Vibration Watch (R94 to R113) -/

/-- R95 to R100, R11, R20: a block of channel k. An old block is counted and changes nothing else. Lost blocks join the window, and
close one that they fill before the samples pass through the tracker into the next; a window that the block fills closes after
them. A close is VOID, NOT_COMPARED outside the running states, or else a comparison by the row in force, which R107's ceiling follows.
R106: what the comparison raises carries the channel and the window's peak. -/
def Obligations.VibrationBlocks : Prop :=
  ∀ (s : State) (f : RawFrame) (b : Bank) (e : SlotEntry) (k : Fin 4) (w0 w1 : Word) (samples : List Word),
    s.hears f → s.classify f = some (b, e) → e.role = .vib k → f.payload = w0 :: w1 :: samples →
    let u := s.forward f
    let x := s.vib.channels[k]
    let q := bitsOf w0 0 8
    let gap := match x.lastSeq with
      | none => 0
      | some p => (q + 255 - p) % 256
    let feed := fun (c : Option Int × Window) (w : Word) =>
      let v := clampInt (Int.fdiv ((w.toInt + e.offset) * e.multiplier) 4096) 32767
      let d := match c.1 with
        | none => 0
        | some m => clampInt (v - Int.fdiv m 64) 32767
      let m' := match c.1 with
        | none => 64 * v
        | some m => m + d
      (some m', { c.2 with
        sum := c.2.sum + d.natAbs * d.natAbs
        n := c.2.n + 1
        peak := max c.2.peak d.natAbs
        sector := if c.2.peak < d.natAbs then bitsOf w1 0 12 / 64 else c.2.sector })
    let block := fun (y : Channel) =>
      let z := samples.foldl feed (y.tracker, y.window)
      { y with tracker := z.1, window := { z.2 with received := z.2.received + 1 } }
    let size := b.dc.g2.vibWindow
    let held := x.window.received + x.window.missed + gap
    let missed := { x with
      window := { x.window with missed := x.window.missed + gap }
      missedBlocks := if 0 < gap then min 65535 (x.missedBlocks + gap) else x.missedBlocks }
    let set := fun (y : Channel) (t : State) => ({ t with vib := { t.vib with channels := t.vib.channels.set k y } } : State)
    let ms := fun (y : Channel) => y.window.sum / y.window.n
    let void := fun (y : Channel) => y.window.n < size * 4 ∨ y.window.n = 0
    let cell := b.vib[s.sched.rowInForce][k]
    let raw := fun (y : Channel) =>
      if cell.alarmHi ≤ ms y then RawResult.aboveAlarm
      else if cell.warnHi ≤ ms y then .aboveWarn
      else if ms y < cell.deadLo ∧ s.seq.drive = .running ∧ b.dc.g2.minDeadRow ≤ s.sched.rowInForce.val then .belowDead
      else .normal
    let verdict := fun (y : Channel) => x.conf.step b.dc.g2 cell (raw y) (ms y)
    let ended := fun (y : Channel) =>
      let fresh := { y with window := ⟨0, 0, 0, 0, 0, 0⟩ }
      let kept := { fresh with lastMs := ms y, lastPeak := y.window.peak, lastSector := y.window.sector }
      if void y then { fresh with raw := .void, voidWindows := min 65535 (y.voidWindows + 1) }
      else if s.seq.drive.isRunning then { kept with raw := raw y, conf := (verdict y).1 }
      else { kept with raw := .notCompared }
    let closed := fun (y : Channel) =>
      let t := set (ended y) u
      if void y ∨ s.seq.drive.isRunning = false then t
      else
        let m := b.dc.g2.pinion[k]
        let ceiling := if ∃ j : Fin 4, b.dc.g2.pinion[j] = m ∧ t.vib.channels[j].conf.state = .alarm then b.dc.g2.derateLevel
          else 12288
        State.raiseVibration k y.window.peak (verdict y).2 { t with vib := { t.vib with
          ceiling := if x.conf.state = .alarm ↔ (verdict y).1.state = .alarm then t.vib.ceiling
            else t.vib.ceiling.set m ceiling } }
    let seen := fun (y : Channel) => { y with lastSeq := some q }
    (127 < gap → exec (.vibrationBlock f) s = .next (set { x with oldBlocks := min 65535 (x.oldBlocks + 1) } u)) ∧
    (gap ≤ 127 → held + 1 < size → exec (.vibrationBlock f) s = .next (set (seen (block missed)) u)) ∧
    (gap ≤ 127 → (gap = 0 ∨ held < size) → size ≤ held + 1 →
      ∃ t, exec (.vibrationBlock f) s = .next t ∧ t = set (seen (ended (block missed))) (closed (block missed)) ∧
        t.intake = s.intake ∧ t.vib.channels = s.vib.channels.set k (seen (ended (block missed)))) ∧
    (0 < gap → gap ≤ 127 → size ≤ held → 2 ≤ size →
      ∃ t, exec (.vibrationBlock f) s = .next t ∧ t = set (seen (block (ended missed))) (closed missed) ∧
        t.intake = s.intake ∧ t.vib.channels = s.vib.channels.set k (seen (block (ended missed))))

/-- R101 to R105: what a compared window does to a confirmation: entry to ALARM and to WARNING, the latch, release, entry to DEAD, a
DEAD channel, and persistence, with what each raises. -/
def Obligations.ConfirmationRules : Prop :=
  ∀ (c : Confirmation) (g : Group2) (cell : VibCell) (raw : RawResult) (ms : Nat),
    1 ≤ g.confirmWindows → 1 ≤ g.releaseWindows → 1 ≤ g.deadWindows →
    let level := cell.warnHi - cell.warnHi * g.hysteresis / 256
    let one := fun n : Nat => min 255 (n + 1)
    (c.state = .normal ∨ c.state = .warning → raw = .aboveAlarm → g.confirmWindows ≤ one c.alarm →
      c.step g cell raw ms = (⟨.alarm, one c.alarm, one c.warn, 0, 0, 0, false⟩, [.alarmEntry])) ∧
    (c.state = .normal → raw = .aboveWarn → g.confirmWindows ≤ one c.warn →
      c.step g cell raw ms = (⟨.warning, 0, one c.warn, 0, 0, 0, false⟩, [.warningEntry])) ∧
    (c.state = .warning ∨ c.state = .alarm → g.vibLatch = true →
      (c.step g cell raw ms).1.state = .warning ∨ (c.step g cell raw ms).1.state = .alarm) ∧
    (c.state = .warning ∨ c.state = .alarm → g.vibLatch = false → raw = .normal → ms < level →
      g.releaseWindows ≤ one c.release → c.step g cell raw ms = (⟨.normal, 0, 0, 0, 0, 0, false⟩, [])) ∧
    (c.state = .normal → raw = .belowDead → g.deadWindows ≤ one c.dead →
      c.step g cell raw ms = (⟨.dead, 0, 0, 0, one c.dead, 0, false⟩, [.deadEntry])) ∧
    (c.state = .dead → ms < cell.deadLo →
      c.step g cell raw ms =
        (⟨.dead, 0, 0, 0, if raw = .belowDead then one c.dead else 0, 0, c.persistRaised⟩, [])) ∧
    (c.state = .dead → cell.deadLo ≤ ms → (c.step g cell raw ms).1.state ≠ .dead) ∧
    (c.state = .alarm → raw = .aboveAlarm → level ≤ ms → 0 < g.persistWindows → g.persistWindows ≤ one c.persist →
      c.persistRaised = false →
      c.step g cell raw ms = (⟨.alarm, one c.alarm, one c.warn, 0, 0, one c.persist, true⟩, [.persists]))

/-! ## Shocks and breakaway at a mark (R66, R71) -/

/-- R71, R66: the Torque Limiter at an accepted mark with no deadline expiry owed. Hold counters not reloaded in the cycle fall by one, the
flags clear, the previous torques age, and the shock list ages and drops what is older than the shock_window of the new cycle. -/
def Obligations.ShockMarkActions : Prop :=
  ∀ (s : State) (f : RawFrame) (c : Instr), c ∈ frameCommands f → s.hearsMark f → s.intake.deadline.isRunning = false →
    let marked := fun (x : MotorLimits) => { x with
      hold := if x.reloaded then x.hold else x.hold - 1
      reloaded := false
      prevTorque := x.prevTorque.map fun p => { p with age := min 2 (p.age + 1) } }
    ∃ t, exec c s = .next t ∧ t.lim.motor = ⟨marked s.lim.motor.a, marked s.lim.motor.b⟩ ∧
      t.lim.shocks = (match t.sched.active with
        | none => s.lim.shocks
        | some b => (s.lim.shocks.map fun e => { e with age := e.age + 1 }).filter fun e => e.age ≤ b.dc.g0.shockWindow) ∧
      (s.lim.breakaway = none → t.lim.breakaway = none) ∧
      (∀ n, s.lim.breakaway = some (n + 2) → t.lim.breakaway = some (n + 1))

/-- R66, R139, R142: a mark, with no deadline expiry owed and no activation pending, at which a breakaway allowance with one mark left
expires. The allowance ends EXPIRED in every class of BREAKAWAY_FAILED; only as TRIP does the drive state change. -/
def Obligations.BreakawayExpires : Prop :=
  ∀ (s : State) (f : RawFrame) (b : Bank), s.hearsMark f → s.intake.deadline.isRunning = false →
    s.sched.active = some b → s.sched.activation = none → s.lim.breakaway = some 1 →
    ∃ t, exec (.breakawayExpired f) s = .next t ∧ t.lim.breakaway = none ∧ t.lim.outcome = .expired ∧
      (b.dc.g3.classes[3] ≠ .trip → t.seq.drive = s.seq.drive ∧ t.tru.first = s.tru.first) ∧
      (b.dc.g3.classes[3] = .warn → t.rpt.attention[Attention.torqueLimit.index] = true) ∧
      (b.dc.g3.classes[3] = .trip → s.seq.drive ≠ .blocked → s.seq.drive ≠ .tripped →
        t.seq.drive = .tripped ∧ t.tru.first = some ⟨.breakawayFailed, .nobody, s.intake.speed.speed⟩)

/-! ## Run control (R115 to R120) -/

/-- R116, R119, R125, R67: Enable, Disable and Stop; the requests are the drive master's alone. -/
def Obligations.EnableDisableStop : Prop :=
  ∀ (s : State) (a : Asker) (tag : Word), s.takesFrom a →
    let refused := fun (c : Instr) (kind : Word) (code : ResultCode) => exec c s = .next (s.answered a kind tag code [])
    (a.manager ≠ .driveMaster →
      refused (.enable a.addr tag) 4 .refusedAccess ∧ refused (.disable a.addr tag) 5 .refusedAccess ∧
      refused (.startRun a.addr tag) 6 .refusedAccess ∧ refused (.startTurning a.addr tag) 7 .refusedAccess ∧
      refused (.stop a.addr tag) 8 .refusedAccess) ∧
    (a.manager = .driveMaster →
      (s.seq.drive ≠ .blocked ∨ s.sched.active = none ∨ s.tru.declared = true →
        refused (.enable a.addr tag) 4 .refusedState) ∧
      (s.seq.drive = .blocked → s.sched.active ≠ none → s.tru.declared = false →
        exec (.enable a.addr tag) s = .next (State.answered a 4 tag .done [1] { s with seq := { s.seq with
          drive := .ready
          turnTimer := match s.seq.turnTimer with
            | .paused us => .counting us
            | x => x } })) ∧
      (s.seq.drive ≠ .ready → refused (.disable a.addr tag) 5 .refusedState) ∧
      (s.seq.drive = .ready →
        exec (.disable a.addr tag) s = .next (State.answered a 5 tag .done [0] { s with seq := { s.seq with
          drive := .blocked
          turnTimer := match s.seq.turnTimer with
            | .counting us => .paused us
            | x => x } })) ∧
      (s.seq.drive ≠ .running → s.seq.drive ≠ .turning → refused (.stop a.addr tag) 8 .refusedState) ∧
      (s.seq.drive = .running ∨ s.seq.drive = .turning → s.intake.markLoss = false →
        exec (.stop a.addr tag) s = .next (State.answered a 8 tag .done [4] { s with
          seq := { s.seq with
            drive := .stopping
            stopCount := 0
            turnTimer := match s.seq.turnTimer with
              | .counting us => .paused us
              | x => x }
          lim := { s.lim with
            breakaway := none
            outcome := if s.lim.breakaway = none then s.lim.outcome else .abandoned } })))

/-- R117, R118, R64, R74, R90, R49, R51, R131: Start Run and Start Turning with a bank active and no mark loss standing. A start from READY
clears the shock history, the integrators and the splitter's flags; a Start Run from STOPPING keeps them. Either starts a breakaway
allowance at or below standstill_speed, and a takeover pending in STOPPING is declined with reason 2. -/
def Obligations.StartsTaken : Prop :=
  ∀ (s : State) (a : Asker) (tag : Word) (b : Bank), s.takesFrom a → a.manager = .driveMaster →
    s.sched.active = some b → s.intake.markLoss = false →
    let paused := match s.seq.turnTimer with
      | .counting us => TurnTimer.paused us
      | x => x
    let allowed := fun (l : Limiter) =>
      if s.intake.speed.speed.natAbs ≤ b.dc.g1.standstillSpeed then
        { l with breakaway := some b.dc.g0.breakawayCycles, outcome := .none }
      else l
    let fresh := fun (x : MotorLimits) => { x with hold := 0, reloaded := false, prevTorque := none }
    let wound := fun (r : Regulator) => { r with acc := 0, saturated := false, satCount := 0, satRaised := false }
    let entered := ({ s with
      split := { s.split with prevLimited := ⟨false, false⟩, imbalanceCount := 0 }
      lim := allowed { s.lim with shocks := [], motor := ⟨fresh s.lim.motor.a, fresh s.lim.motor.b⟩ }
      reg := ⟨wound s.reg.a, wound s.reg.b⟩ } : State)
    (s.seq.drive = .ready → s.seq.pendingTakeover = false →
      exec (.startRun a.addr tag) s = .next (State.answered a 6 tag .done [2] { entered with seq := { s.seq with
        drive := .running, turnTimer := paused, turnComplete := false, stopCount := 0 } }) ∧
      exec (.startTurning a.addr tag) s = .next (State.answered a 7 tag .done [3] { entered with seq := { s.seq with
        drive := .turning, turnTimer := paused, turnComplete := false, advance := 0 } })) ∧
    (s.seq.drive = .stopping →
      exec (.startRun a.addr tag) s = .next (State.answered a 6 tag .done [2] { s with
        lim := allowed s.lim
        seq := { s.seq with
          drive := .running, turnTimer := paused, turnComplete := false, stopCount := 0, pendingTakeover := false
          outgoing := match s.seq.pendingTakeover, s.auxAddr with
            | true, some dest => some (makeFrame dest s.rp.strap kindDecline s.cycleTag [2])
            | _, _ => s.seq.outgoing } })) ∧
    (s.seq.drive ≠ .ready → exec (.startTurning a.addr tag) s = .next (s.answered a 7 tag .refusedState [])) ∧
    (s.seq.drive ≠ .ready → s.seq.drive ≠ .stopping →
      exec (.startRun a.addr tag) s = .next (s.answered a 6 tag .refusedState []))

/-- R120, R110, R88, R131: a FRESH speed sample in STOPPING at or below overspeed. Above standstill_speed it clears the stop count. At
or below it adds to the count; at stop_confirm the state is READY, each converter is sent at once a block frame with field_ref of the
row in force (before or after the sample, the manual gives no order: notes/assumptions/3.md), the regulators' outputs are 0, and each
confirmation is reset, WARNING and ALARM kept only under the vibration latch. A pending takeover is then judged as in READY: with no
turn due the gear is handed over, with one it is declined with reason 1. -/
def Obligations.StopConfirmed : Prop :=
  ∀ (s : State) (f : RawFrame) (b : Bank) (e : SlotEntry) (w0 w1 w2 : Word),
    s.takesSample f b e → e.role = .speed → f.payload = [w0, w1, w2] → w0.getLsbD 0 = false → s.seq.drive = .stopping →
    let v := clampInt (Int.fdiv ((w1.toInt + e.offset) * e.multiplier) 4096) 32767
    v.natAbs ≤ b.dc.g0.overspeed →
    let n := min 10000 (s.seq.stopCount + 1)
    let angleStep : Int := match s.seq.lastAngle with
      | none => 0
      | some p => ((bitsOf w2 0 12 : Int) - p + 2048) % 4096 - 2048
    let due := s.seq.turnDue = true ∧ (s.seq.movement + angleStep).natAbs < b.dc.g1.turnAngle
    ∃ t, exec (.sampleFrame f) s = .next t ∧
      (b.dc.g1.standstillSpeed < v.natAbs →
        t.rp = (s.forward f).rp ∧ t.seq.drive = .stopping ∧ t.seq.stopCount = 0 ∧
        t.seq.pendingTakeover = s.seq.pendingTakeover ∧ t.vib = s.vib ∧ t.reg = s.reg) ∧
      (v.natAbs ≤ b.dc.g1.standstillSpeed →
        t.seq.stopCount = n ∧
        (n < b.dc.g1.stopConfirm →
          t.rp = (s.forward f).rp ∧ t.seq.drive = .stopping ∧ t.seq.pendingTakeover = s.seq.pendingTakeover ∧
          t.vib = s.vib ∧ t.reg = s.reg) ∧
        (b.dc.g1.stopConfirm ≤ n → t.seq.pendingTakeover = false ∧
          (∃ row ∈ [s.sched.rowInForce, t.sched.rowInForce], (s.forward f).blocksJoin f.tag b.speed[row].fieldRef t.rp) ∧
          t.reg = ⟨{ s.reg.a with output := 0, saturated := false }, { s.reg.b with output := 0, saturated := false }⟩ ∧
          (∀ k : Fin 4, t.vib.channels[k] = { s.vib.channels[k] with
            conf := ⟨if b.dc.g2.vibLatch = true ∧
                (s.vib.channels[k].conf.state = .warning ∨ s.vib.channels[k].conf.state = .alarm)
              then s.vib.channels[k].conf.state else .normal, 0, 0, 0, 0, 0, false⟩ }) ∧
          (s.seq.pendingTakeover = false → t.seq.drive = .ready ∧ t.seq.grant = s.seq.grant ∧
            t.seq.outgoing = s.seq.outgoing) ∧
          (s.seq.pendingTakeover = true → ∀ dest, s.auxAddr = some dest →
            (due → t.seq.drive = .ready ∧ t.seq.grant = s.seq.grant ∧
              t.seq.outgoing = some (makeFrame dest s.rp.strap kindDecline f.tag [1])) ∧
            (¬ due → t.seq.drive = .auxiliary ∧ t.seq.grant = .granted ∧
              t.seq.outgoing = some (makeFrame dest s.rp.strap kindHandover f.tag [])))))

/-! ## The hot-stop schedule and the auxiliary drive (R124 to R133) -/

/-- R124, R125, R128: Set Hot Stop and Clear Hot Stop, from any manager in any drive state. -/
def Obligations.HotStopRequests : Prop :=
  ∀ (s : State) (a : Asker) (tag : Word), s.takesFrom a →
    (s.sched.active = none → exec (.setHotStop a.addr tag) s = .next (s.answered a 11 tag .refusedState [])) ∧
    (∀ b, s.sched.active = some b →
      (s.seq.hot = true → exec (.setHotStop a.addr tag) s = .next (s.answered a 11 tag .done [])) ∧
      (s.seq.hot = false → exec (.setHotStop a.addr tag) s =
        .next (State.answered a 11 tag .done [] { s with seq := { s.seq with
          hot := true
          movement := 0
          turnTimer := if s.seq.drive = .ready ∨ s.seq.drive = .auxiliary then .counting (b.dc.g1.turnInterval * 1000000)
            else .paused (b.dc.g1.turnInterval * 1000000) } }))) ∧
    exec (.clearHotStop a.addr tag) s = .next (State.answered a 12 tag .done [] { s with seq := { s.seq with
      hot := false, turnTimer := .idle, turnDue := false, overdue := .stopped } })

/-- R125, R127, R128, R132: the expiry of a counting turn timer in READY makes a turn due, and in AUXILIARY with the grant GRANTED
recalls the gear, or with the grant RECALLING makes the recall again and leaves the recall timer alone; a counting overdue timer raises
TURN_OVERDUE; a counting recall timer raises AUX_STUCK with its count and starts again. -/
def Obligations.HotStopTimersExpire : Prop :=
  ∀ (s : State) (b : Bank) (us : Nat), s.sched.active = some b →
    let due := fun (k : Attention) => (⟨k, 0, .nobody, signedDetail s.seq.movement⟩ : Raise)
    let reloaded := RecallTimer.counting (b.dc.g1.recallTimeout * 1000000)
    (s.seq.turnTimer = .counting us →
      (s.seq.drive = .ready → exec .turnTimerExpiry s = .next (State.raiseAttention (due .turnDue) { s with seq := { s.seq with
        turnTimer := .expired
        turnDue := true
        overdue := if s.seq.overdue = .stopped then .counting (b.dc.g1.turnOverdue * 1000000) else s.seq.overdue } })) ∧
      (s.seq.drive = .auxiliary → s.seq.grant = .granted → ∀ dest, s.auxAddr = some dest →
        exec .turnTimerExpiry s = .next { s with seq := { s.seq with
          turnTimer := .expired
          grant := .recalling
          recallCount := 0
          recallTimer := reloaded
          outgoing := some (makeFrame dest s.rp.strap kindRecall s.cycleTag []) } }) ∧
      (s.seq.drive = .auxiliary → s.seq.grant = .recalling → ∀ dest, s.auxAddr = some dest →
        exec .turnTimerExpiry s = .next { s with seq := { s.seq with
          turnTimer := .expired
          outgoing := some (makeFrame dest s.rp.strap kindRecall s.cycleTag []) } })) ∧
    (s.seq.overdue = .counting us → exec .overdueTimerExpiry s =
      .next (State.raiseAttention (due .turnOverdue) { s with seq := { s.seq with overdue := .expired } })) ∧
    (s.seq.recallTimer = .counting us →
      let n := min 255 (s.seq.recallCount + 1)
      exec .recallTimerExpiry s = .next (State.raiseAttention ⟨.auxStuck, 0, .nobody, n⟩
        { s with seq := { s.seq with recallCount := n, recallTimer := reloaded } }))

/-- R130, R131, R175: a takeover frame from the auxiliary drive controller, by the drive state and grant at its arrival; R133: a return
frame, in AUXILIARY and in TRIPPED; one that answers a recall with the hot flag set and the turn timer EXPIRED makes a turn due. -/
def Obligations.AuxiliaryFrames : Prop :=
  ∀ (s : State) (f : RawFrame), s.hearsAux f →
    let answers := fun (kind : Nat) (payload : List Word) (u : State) =>
      exec (.takeover f) s = .next { u with seq := { u.seq with
        outgoing := some (makeFrame f.source s.rp.strap kind s.cycleTag payload) } }
    let back := fun (d : DriveState) => ({ s with seq := { s.seq with
      drive := d, grant := .none, recallTimer := .stopped, turnTimer := s.seq.turnTimer.follow d } } : State)
    (f.kindCode = kindTakeover → s.restartPending = true → answers kindDecline [4] s) ∧
    (f.kindCode = kindTakeover → s.restartPending = false →
      (s.seq.grant = .granted → answers kindHandover [] s) ∧
      (s.seq.grant = .recalling → answers kindRecall [] s) ∧
      (s.seq.grant = .none →
        (s.seq.drive = .ready → s.seq.turnDue = false → answers kindHandover [] { s with seq := { s.seq with
          drive := .auxiliary, grant := .granted, turnTimer := s.seq.turnTimer.follow .auxiliary } }) ∧
        (s.seq.drive = .ready → s.seq.turnDue = true → answers kindDecline [1] s) ∧
        (s.seq.drive = .running → answers kindDecline [2] s) ∧
        (s.seq.drive = .turning → answers kindDecline [3] s) ∧
        (s.seq.drive = .blocked → answers kindDecline [4] s) ∧
        (s.seq.drive = .tripped → answers kindDecline [5] s) ∧
        (s.seq.drive = .stopping →
          exec (.takeover f) s = .next { s with seq := { s.seq with pendingTakeover := true } }))) ∧
    (f.kindCode = kindReturn →
      (s.seq.grant = .none → exec (.returnFrame f) s = .next s) ∧
      (s.seq.grant = .granted ∨ s.seq.grant = .recalling ∧ ¬ (s.seq.hot = true ∧ s.seq.turnTimer = .expired) →
        (s.seq.drive = .auxiliary → exec (.returnFrame f) s = .next (back .ready)) ∧
        (s.seq.drive = .tripped → exec (.returnFrame f) s =
          .next { s with seq := { s.seq with grant := .none, recallTimer := .stopped } })) ∧
      (s.seq.grant = .recalling → s.seq.hot = true → s.seq.turnTimer = .expired →
        let due := fun (u : State) => State.raiseAttention ⟨.turnDue, 0, .nobody, signedDetail s.seq.movement⟩ { u with
          seq := { u.seq with
            turnDue := true
            overdue := match s.seq.overdue, s.sched.active with
              | .stopped, some b => .counting (b.dc.g1.turnOverdue * 1000000)
              | x, _ => x } }
        (s.seq.drive = .auxiliary → exec (.returnFrame f) s = .next (due (back .ready))) ∧
        (s.seq.drive = .tripped → exec (.returnFrame f) s =
          .next (due { s with seq := { s.seq with grant := .none, recallTimer := .stopped } }))))

/-! ## Causes and trips (R138 to R149) -/

/-- R141 to R143, R146: what one raise does, by its class, the drive state and whether it repeats a standing level cause. A later cause
is listed with the trip age, and in the header of the trip's record, while the list has a free place; it is dropped and counted when it
has none. R159: CYCLE_LOST, listed, dropped or known, also ends a capture in progress TRUNCATED and raises RECORD_DONE. -/
def Obligations.RaiseTable : Prop :=
  ∀ (s : State) (c : Cause) (who : Who) (detail : Int),
    let u := ({ s with tru := { s.tru with standing := s.tru.standing.raised c } } : State)
    let result := s.raiseCause c who detail
    let reported := (s.tru.standing.get c = true → result = u) ∧
      (s.tru.standing.get c = false → result = u.raiseAttention ⟨c.reportKind, c.code, who, detail⟩)
    let known := (∃ r, s.tru.first = some r ∧ r.cause = c) ∨ ∃ age, (c, age) ∈ s.tru.later
    let capturing := fun k : Fin 8 => s.recorder.slots[k].state = .capturing
    let listed := fun k : Fin 8 => s.recorder.currentSlot = some k → s.recorder.slots[k].state ≠ .empty →
      result.recorder.slots[k].header.later = s.recorder.slots[k].header.later ++ [(c.code, s.tru.age)]
    (s.classOf c = .ignore → result = u) ∧
    (s.classOf c = .warn → reported) ∧
    (s.classOf c = .trip → s.seq.drive = .blocked → reported) ∧
    (s.classOf c = .trip → s.seq.drive ≠ .blocked → s.seq.drive ≠ .tripped →
      result.seq.drive = .tripped ∧ result.tru.declared = true ∧ result.tru.first = some ⟨c, who, detail⟩) ∧
    (s.classOf c = .trip → s.seq.drive = .tripped → c ≠ .cycleLost →
      (known → result = u) ∧
      (¬ known → s.tru.later.length < 4 →
        result.tru = { u.tru with later := s.tru.later ++ [(c, s.tru.age)] } ∧ result.seq = s.seq ∧
        result.rpt = (s.raiseAttention ⟨.trip, c.code, who, detail⟩).rpt ∧ ∀ k, listed k) ∧
      (¬ known → 4 ≤ s.tru.later.length →
        result.tru = { u.tru with dropped := min 255 (s.tru.dropped + 1) } ∧ result.seq = s.seq ∧ result.rpt = s.rpt)) ∧
    (s.classOf c = .trip → s.seq.drive = .tripped → c = .cycleLost →
      result.seq = s.seq ∧
      (known → result.tru = u.tru ∧ ((∀ k, ¬ capturing k) → result = u)) ∧
      (¬ known → s.tru.later.length < 4 →
        result.tru = { u.tru with later := s.tru.later ++ [(c, s.tru.age)] } ∧
        result.rpt.attention[Attention.trip.index] = true ∧ ∀ k, listed k) ∧
      (¬ known → 4 ≤ s.tru.later.length →
        result.tru = { u.tru with dropped := min 255 (s.tru.dropped + 1) } ∧
        ((∀ k, ¬ capturing k) → result.rpt = s.rpt)) ∧
      ∀ k, capturing k → (∀ j < k, ¬ capturing j) →
        result.recorder.slots[k].state = .truncated ∧ result.rpt.attention[Attention.recordDone.index] = true ∧
        (∀ j, j ≠ k → result.recorder.slots[j].state = s.recorder.slots[j].state))

/-- R147, R144, R37, R42, R67, R88, R131: the Trip request and its outcome word. In a state that a trip can leave it declares one with
first cause EXTERNAL, ends the pin, the allowance and a pending activation, zeroes the regulators' outputs and sends each converter a
block frame with field reference 0 on leaving a running state, and declines a pending takeover with reason 5. -/
def Obligations.TripRequested : Prop :=
  ∀ (s : State) (a : Asker) (tag detail : Word), s.takesFrom a →
    let known := (∃ r, s.tru.first = some r ∧ r.cause = .external) ∨ ∃ age, (Cause.external, age) ∈ s.tru.later
    let done := fun (outcome : Word) => (⟨a.addr, 9, tag, .done, [outcome], s.cycleTag, .answer⟩ : Reply)
    (s.seq.drive ≠ .blocked → s.seq.drive ≠ .tripped →
      ∃ t, exec (.trip a.addr tag detail) s = .next t ∧ t.seq.drive = .tripped ∧ t.seq.grant = s.seq.grant ∧
        t.tru = { s.tru with
          declared := true
          first := some ⟨.external, .nobody, detail.toNat⟩
          cycleTag := s.cycleTag
          age := 0
          later := []
          dropped := 0 } ∧
        t.lim.breakaway = none ∧ t.sched.pin = none ∧ t.sched.activation = none ∧ t.sched.active = s.sched.active ∧
        t.sched.staged = s.sched.staged ∧ t.sched.generation = s.sched.generation ∧
        (s.seq.drive.isRunning = true → t.reg.a.output = 0 ∧ t.reg.b.output = 0 ∧ t.reg.a.saturated = false ∧
          t.reg.b.saturated = false ∧ s.blocksJoin s.cycleTag 0 t.rp) ∧
        (s.seq.drive.isRunning = false → t.reg = s.reg ∧ t.rp = s.rp) ∧
        t.seq.pendingTakeover = false ∧
        t.seq.outgoing = (match s.seq.pendingTakeover, s.auxAddr with
          | true, some dest => some (makeFrame dest s.rp.strap kindDecline s.cycleTag [5])
          | _, _ => s.seq.outgoing) ∧
        t.rpt.attention[Attention.trip.index] = true ∧
        (t.rqh.get a.manager).holder = ⟨.answering, a.addr, tag⟩ ∧
        (t.rqh.get a.manager).replies.getLast? = some (done 0)) ∧
    (s.seq.drive = .blocked → exec (.trip a.addr tag detail) s =
      .next (State.answered a 9 tag .done [4] (s.raiseAttention ⟨.trip, 8, .nobody, detail.toNat⟩))) ∧
    (s.seq.drive = .tripped →
      (known → exec (.trip a.addr tag detail) s = .next (s.answered a 9 tag .done [2])) ∧
      (¬ known → ∃ t, exec (.trip a.addr tag detail) s = .next t ∧ t.seq = s.seq ∧
        (s.tru.later.length < 4 → t.tru.later = s.tru.later ++ [(.external, s.tru.age)] ∧
          (t.rqh.get a.manager).replies.getLast? = some (done 1)) ∧
        (4 ≤ s.tru.later.length → t.tru.dropped = min 255 (s.tru.dropped + 1) ∧
          (t.rqh.get a.manager).replies.getLast? = some (done 3))))

/-- R148, R149: Acknowledge Trip, by the tests of the rule in their order; the lowest-numbered fixed-class level cause whose condition
stands is named. That SAMPLE_LOSS stands by the flag a deadline expiry left, and not by a miss count compared anew, is the model's
reading (notes/assumptions/10.md, DEDUCED). -/
def Obligations.TripAcknowledged : Prop :=
  ∀ (s : State) (a : Asker) (tag : Word), s.takesFrom a →
    let answers := fun (code : ResultCode) (ws : List Word) =>
      exec (.acknowledgeTrip a.addr tag) s = .next (s.answered a 10 tag code ws)
    let capturing := ∃ k : Fin 8, s.recorder.currentSlot = some k ∧ s.recorder.slots[k].state = .capturing
    let i := s.intake
    let conditions := [s.tru.converterFault.a.isSome, s.tru.converterFault.b.isSome, s.reg.a.overcurrent, s.reg.b.overcurrent,
      i.markLoss, i.arm.a.status.lossStands || i.arm.b.status.lossStands || i.speed.status.lossStands]
    let d := if s.seq.grant = .none then DriveState.blocked else DriveState.auxiliary
    (a.manager = .serviceStation → a.level = .operate → answers .refusedAccess []) ∧
    (a.manager = .driveMaster ∨ a.level = .commission →
      (s.seq.drive ≠ .tripped → answers .refusedState []) ∧
      (s.seq.drive = .tripped → capturing → answers .busy []) ∧
      (s.seq.drive = .tripped → ¬ capturing → ∀ n, conditions[n]? = some true → (∀ j < n, conditions[j]? = some false) →
        answers .refusedState [wordOfNat (n + 1)]) ∧
      (s.seq.drive = .tripped → ¬ capturing → (∀ x ∈ conditions, x = false) →
        exec (.acknowledgeTrip a.addr tag) s = .next (State.answered a 10 tag .done [wordOfNat d.code] { s with
          seq := { s.seq with drive := d, turnTimer := s.seq.turnTimer.follow d }
          tru := { s.tru with declared := false, first := none, cycleTag := 0, age := 0, later := [], dropped := 0 }
          recorder := { s.recorder with currentSlot := none } })))

/-! ## The Recorder (R151 to R166) -/

/-- R155 to R158: the capture that a declared trip starts, seen at a Trip request in a state a trip can leave. A locked or pinned slot is
never chosen; the lowest EMPTY slot is chosen, else the one with the lowest sequence number; with none the record is not kept. -/
def Obligations.CaptureStarts : Prop :=
  ∀ (s : State) (a : Asker) (tag detail : Word) (b : Bank), s.takesFrom a → s.seq.drive ≠ .blocked → s.seq.drive ≠ .tripped →
    s.sched.active = some b →
    let r := s.recorder
    let unheld := fun k : Fin 8 => r.slots[k].locked = false ∧ r.slots[k].pinned = false
    let free := fun k : Fin 8 => r.slots[k].state = .empty ∧ unheld k
    let kept := fun k : Fin 8 => (r.slots[k].state = .complete ∨ r.slots[k].state = .truncated) ∧ unheld k
    let v := s.vib.channels
    let m := s.lim.motor
    ∃ t, exec (.trip a.addr tag detail) s = .next t ∧
      ((∀ k, ¬ free k ∧ ¬ kept k) →
        t.recorder = { r with currentSlot := none } ∧ t.rpt.attention[Attention.recordNotKept.index] = true) ∧
      ∀ k : Fin 8,
        (free k ∧ (∀ j < k, ¬ free j) ∨
          (∀ j, ¬ free j) ∧ kept k ∧ ∀ j, kept j →
            r.slots[k].header.seq < r.slots[j].header.seq ∨ r.slots[k].header.seq = r.slots[j].header.seq ∧ k ≤ j) →
        let n := min 4294967295 (r.seqCounter + 1)
        let body := r.history.drop (r.history.length - min b.dc.g3.preDepth r.history.length)
        t.recorder = { r with
          seqCounter := n
          currentSlot := some k
          slots := r.slots.set k ⟨if b.dc.g3.postDepth = 0 then .complete else .capturing, b.dc.g3.lockSet.getLsbD 7, false,
            ⟨n, 8, .nobody, detail.toNat, s.cycleTag, s.seq.drive, s.row.val, s.sched.generation, ⟨m.a.lmotEff, m.b.lmotEff⟩,
              ⟨m.a.lgenEff, m.b.lgenEff⟩, #v[v[0].lastMs, v[1].lastMs, v[2].lastMs, v[3].lastMs],
              #v[v[0].conf.state, v[1].conf.state, v[2].conf.state, v[3].conf.state], [], 0, body.length, 0⟩, body⟩ }

/-- R154, R160 to R162, R195: Annotate, Read Record Header with the words of the header, Lock Record, Unlock Record and Erase Records.
That the count of Erase Records is that of the occupied slots it empties is the model's reading (notes/assumptions/14.md, DEDUCED). -/
def Obligations.RecordRequests : Prop :=
  ∀ (s : State) (a : Asker) (tag w : Word), s.takesFrom a →
    let r := s.recorder
    let refused := fun (c : Instr) (kind : Word) (code : ResultCode) => exec c s = .next (s.answered a kind tag code [])
    let locked := fun (k : Fin 8) (l : Bool) => ({ s with recorder := { r with
      slots := r.slots.set k { r.slots[k] with locked := l } } } : State)
    let erasable := fun (x : RecordSlot) =>
      (x.state = .complete ∨ x.state = .truncated) ∧ x.locked = false ∧ x.pinned = false
    let one := fun (n : Nat) => BitVec.ofNat 16 n
    let two := fun (n : Nat) => [BitVec.ofNat 16 (n / 65536), BitVec.ofNat 16 n]
    let headerWords := fun (x : RecordSlot) =>
      let h := x.header
      let y := h.confirmed
      two h.seq ++ [one h.causeCode, one h.who.code, BitVec.ofInt 16 h.detail, h.tripTag, one h.drive.code, one h.row] ++
      two h.generation ++ [one h.lmotEff.a, one h.lgenEff.a, one h.lmotEff.b, one h.lgenEff.b] ++
      two h.lastMs[0] ++ two h.lastMs[1] ++ two h.lastMs[2] ++ two h.lastMs[3] ++
      [one (y[0].code + 4 * y[1].code + 16 * y[2].code + 64 * y[3].code), one h.later.length] ++
      (h.later.flatMap fun e => [one e.1, one e.2]) ++ List.replicate (8 - 2 * h.later.length) 0 ++
      [one h.dropped, one h.pre, one h.post, one x.state.code, if x.locked then 1 else 0]
    (w = 0 ∨ 255 < w.toNat → refused (.annotate a.addr tag w) 14 .badArgument) ∧
    (w ≠ 0 → w.toNat ≤ 255 → exec (.annotate a.addr tag w) s =
      .next (State.answered a 14 tag .done [if r.marker = none then 0 else 1]
        { s with recorder := { r with marker := some w.toNat } })) ∧
    (8 ≤ w.toNat → refused (.readRecordHeader a.addr tag w) 15 .badArgument ∧ refused (.lockRecord a.addr tag w) 18 .badArgument) ∧
    (a.level = .operate → refused (.unlockRecord a.addr tag w) 19 .refusedAccess ∧ refused (.eraseRecords a.addr tag) 20 .refusedAccess) ∧
    (a.level = .commission → 8 ≤ w.toNat → refused (.unlockRecord a.addr tag w) 19 .badArgument) ∧
    (∀ k : Fin 8, w.toNat = k.val →
      (r.slots[k].state = .empty →
        refused (.readRecordHeader a.addr tag w) 15 .notFound ∧ refused (.lockRecord a.addr tag w) 18 .notFound ∧
        (a.level = .commission → refused (.unlockRecord a.addr tag w) 19 .notFound)) ∧
      (r.slots[k].state ≠ .empty →
        exec (.readRecordHeader a.addr tag w) s =
          .next (s.answered a 15 tag .done (headerWords r.slots[k] ++ [if r.slots[k].pinned then 1 else 0])) ∧
        exec (.lockRecord a.addr tag w) s = .next ((locked k true).answered a 18 tag .done []) ∧
        (a.level = .commission →
          exec (.unlockRecord a.addr tag w) s = .next ((locked k false).answered a 19 tag .done [])))) ∧
    (a.level = .commission → exec (.eraseRecords a.addr tag) s =
      .next (State.answered a 20 tag .done [one (r.slots.toList.countP fun x => decide (erasable x))]
        { s with recorder := { r with
          slots := Vector.ofFn fun k : Fin 8 => if erasable r.slots[k] then RecordSlot.emptied else r.slots[k]
          currentSlot := match r.currentSlot with
            | none => none
            | some k => if erasable r.slots[k] then none else some k } }))

/-- R163, R166, R172, R173: Read Record, by the tests of the rule in their order, and Abort Readout from the reading manager. -/
def Obligations.ReadRecordTaken : Prop :=
  ∀ (s : State) (a : Asker) (tag slot first count : Word),
    (s.takesFrom a →
      let r := s.recorder
      let refused := fun (code : ResultCode) =>
        exec (.readRecord a.addr tag slot first count) s = .next (s.answered a 16 tag code [])
      let outside := 8 ≤ slot.toNat ∨ 511 < first.toNat ∨ count.toNat < 1 ∨ 512 < count.toNat
      (outside → refused .badArgument) ∧
      (¬ outside → r.readout ≠ .idle → refused .busy) ∧
      (r.readout = .idle → ¬ outside → ∀ k : Fin 8, slot.toNat = k.val →
        let x := r.slots[k]
        let held := x.header.pre + x.header.post
        (x.state = .empty → refused .notFound) ∧
        (x.state = .capturing → refused .refusedState) ∧
        (x.state = .complete ∨ x.state = .truncated → held < first.toNat + count.toNat → refused .badArgument) ∧
        (x.state = .complete ∨ x.state = .truncated → first.toNat + count.toNat ≤ held →
          exec (.readRecord a.addr tag slot first count) s = .next (State.answered a 16 tag .done (wordsOfNat32 x.header.seq)
            { s with recorder := { r with
              slots := r.slots.set k { x with pinned := true }
              readout := .sending ⟨a.manager, a.addr, k, first.toNat, count.toNat, 0, false,
                match s.sched.active with
                  | none => 4
                  | some b => b.dc.g3.segmentSize⟩ } })))) ∧
    (s.takesFrom a → s.recorder.readout = .idle →
      exec (.abortReadout a.addr tag) s = .next (s.answered a 17 tag .refusedState [])) ∧
    (∀ rd : ReadoutData, s.forwardingOnly = false → a.addr ≠ s.rp.strap → s.managerOf a.addr = some (a.manager, a.level) →
      s.restartPending = false → (s.rqh.get a.manager).replies.length < 4 → (s.rqh.get a.manager).holder.state = .reading →
      (s.rqh.get a.manager).abortAnswering = false → rd.addr = a.addr →
      (s.recorder.readout = .sending rd ∨ s.recorder.readout = .closing rd) →
      let x := s.rqh.get a.manager
      exec (.abortReadout a.addr tag) s = .next { s with
        recorder := { s.recorder with readout := .closing { rd with aborted := true } }
        rqh := s.rqh.set a.manager { x with
          abortAnswering := true
          replies := x.replies ++ [⟨a.addr, 17, tag, .done, [], s.cycleTag, .abortAnswer⟩] } })

/-- R164, R165, R7: with a queue place free, and no producer owed one before the Recorder, a readout in SENDING whose response has left
produces its next segment once no segment is queued, and one in CLOSING its record end frame, which ends the readout. -/
def Obligations.ReadoutFrames : Prop :=
  ∀ (s : State) (rd : ReadoutData), s.forwardingOnly = false → s.rp.queue.length < 16 → ¬ s.mustWait .record →
    (∀ f ∈ s.rp.queue, f.kindCode ≠ kindRecordData) →
    let x := s.recorder.slots[rd.slot]
    let n := min rd.segSize rd.remaining
    let own := fun (kind : Nat) (payload : List Word) =>
      s.rp.queue ++ [makeFrame rd.addr s.rp.strap kind s.cycleTag (wordOfNat rd.slot.val :: wordsOfNat32 x.header.seq ++ payload)]
    let next := { rd with next := rd.next + n, remaining := rd.remaining - n, sent := rd.sent + n }
    (s.recorder.readout = .sending rd → (s.rqh.get rd.manager).holder.state = .reading →
      ∃ t, exec .recordData s = .next t ∧
        t.rp.queue = own kindRecordData
          ([wordOfNat rd.next, wordOfNat n] ++ ((x.body.drop rd.next).take n).flatMap Snapshot.words) ∧
        t.recorder = { s.recorder with readout := if rd.remaining ≤ n then .closing next else .sending next } ∧
        t.rqh = s.rqh) ∧
    (s.recorder.readout = .sending rd → (s.rqh.get rd.manager).holder.state ≠ .reading → exec .recordData s = .next s) ∧
    (s.recorder.readout = .closing rd →
      ∃ t, exec .recordEnd s = .next t ∧
        t.rp.queue = own kindRecordEnd [if rd.aborted then 1 else 0, wordOfNat rd.sent] ∧
        t.recorder = { s.recorder with
          slots := s.recorder.slots.set rd.slot { x with pinned := false }
          readout := .idle } ∧
        (t.rqh.get rd.manager).holder.state = .free) ∧
    (s.recorder.readout = .sending rd → exec .recordEnd s = .next s) ∧
    (s.recorder.readout = .closing rd → exec .recordData s = .next s) ∧
    (s.recorder.readout = .idle → exec .recordData s = .next s ∧ exec .recordEnd s = .next s)

/-! ## Requests and responses (R170 to R178, R109, R184) -/

/-- R170, R171, R173 to R175, R191, R193: a command at a station's own address that its owning rule does not judge: one with no request
tag or from no manager, one while a Restart is in progress or with four responses waiting, one met by a holder that is not FREE, and one
of unknown kind or wrong argument count. That a Load Rows of fewer than three arguments has a wrong count is the model's reading
(notes/assumptions/31.md, DEDUCED). -/
def Obligations.RequestsRefused : Prop :=
  ∀ (s : State) (c : Instr) (src : Addr) (ws : List Word), requestOf c = some (src, ws) → ws.length ≤ 64 →
    s.forwardingOnly = false → src ≠ s.rp.strap →
    let unread := { s with rp := { s.rp with unexpected := min 65535 (s.rp.unexpected + 1) } }
    let discarded := { s with rqh := { s.rqh with overrun := min 65535 (s.rqh.overrun + 1) } }
    (ws.length < 2 → exec c s = .next unread) ∧
    (s.managerOf src = none → exec c s = .next unread) ∧
    ∀ (kind tag : Word) (args : List Word) (m : Manager) (level : Level), ws = kind :: tag :: args →
      s.managerOf src = some (m, level) →
      let x := s.rqh.get m
      (s.restartPending = true ∨ 4 ≤ x.replies.length → exec c s = .next discarded) ∧
      (s.restartPending = false → x.replies.length < 4 → x.holder.state ≠ .free →
        (kind.toNat ≠ 17 ∨ x.holder.state ≠ .reading ∨ x.abortAnswering = true) →
        let refusals := x.replies.countP fun r => r.purpose == .refusal
        (refusals ≤ 2 → exec c s = .next { s with rqh := s.rqh.set m { x with
          replies := x.replies ++ [⟨src, kind, tag, .busy, [], s.cycleTag, .refusal⟩] } }) ∧
        (2 < refusals → exec c s = .next discarded)) ∧
      (s.takesFrom ⟨m, level, src⟩ →
        let one := [2, 9, 14, 15, 18, 19, 25]
        let right := if kind.toNat = 22 then 3 ≤ args.length
          else if kind.toNat ∈ one then args.length = 1
          else if kind.toNat = 16 then args.length = 3
          else if kind.toNat = 21 then args.length = 4
          else 1 ≤ kind.toNat ∧ kind.toNat ≤ 28 ∧ args.length = 0
        ¬ right → exec c s = .next (s.answered ⟨m, level, src⟩ kind tag .badArgument []))

/-- R177, R178, R183, R184, R109, R193: Describe, Read Status, Poll Attention and Clear Alarms, taken in every drive state. A page is read
as it stands at the take, with the asker's own holder ANSWERING (the model's reading: notes/assumptions/19.md, DEDUCED). The order and
forms of a page's words and of Describe's are the model's reading where R193 leaves them (notes/assumptions/22.md, DEDUCED). -/
def Obligations.ReportsAnswered : Prop :=
  ∀ (s : State) (a : Asker) (tag page : Word), s.takesFrom a →
    let flag := fun (p : Bool) => if p then (1 : Word) else 0
    let one := fun (n : Nat) => BitVec.ofNat 16 n
    let sgn := fun (n : Int) => BitVec.ofInt 16 n
    let two := fun (n : Nat) => [BitVec.ofNat 16 (n / 65536), BitVec.ofNat 16 n]
    let sgn2 := fun (n : Int) => two (n % 4294967296).toNat
    let opt := fun (size : Nat) (x : Option (List Word)) => match x with
      | none => List.replicate (size + 1) (0 : Word)
      | some ws => 1 :: ws
    let places := fun (n : Nat) (l : List (List Word)) (size : Nat) =>
      one l.length :: (l.flatten ++ List.replicate (n * size - l.flatten.length) 0)
    let up := fun (unit us : Nat) => BitVec.ofNat 16 ((us + unit - 1) / unit)
    let t := s.taking a tag
    let i := t.intake
    let c := t.sched
    let p := t.split
    let l := t.lim
    let q := t.seq
    let d := t.recorder
    let status := fun (x : RoleStatus) => [one x.quality.code, flag x.taken, one x.miss]
    let arm := fun (x : ArmLatch) => [sgn x.current, sgn x.voltage, flag x.ready, one x.fault] ++ status x.status
    let previous := fun (x : MotorLimits) => opt 3 (x.prevTorque.map fun y => [sgn y.value, one y.quality.code, one y.age])
    let page0 := [one t.rp.checkErrors, one t.rp.lengthErrors, one t.rp.unexpected, one t.rp.forwardOverflow,
      one t.rp.priorityOverrun, one t.rqh.overrun, one t.rqh.master.holder.state.code, flag t.rqh.master.abortAnswering,
      one t.rqh.service.holder.state.code, flag t.rqh.service.abortAnswering] ++
      opt 2 (t.serviceEntry.map fun x => [one x.1.toNat, one x.2.code])
    let page1 := opt 1 (i.cycle.map fun x => [x]) ++
      (match i.deadline with
        | .notStarted => [0, 0]
        | .running us => [1, one us]
        | .expired => [2, 0]) ++
      (match i.markTimer with
        | .stopped => [0, 0]
        | .running us => [1, up 1000 us]
        | .expired => [2, 0]) ++
      [flag i.markLoss] ++ arm i.arm.a ++ arm i.arm.b ++
      [sgn i.speed.speed, one i.speed.angle, flag i.speed.encoderFault] ++ status i.speed.status ++
      [sgn i.ref.reference] ++ status i.ref.status ++ [one i.slips, one i.stale, one i.late, one i.duplicate]
    let page2 := [flag c.active.isSome, flag c.staged.isSome,
      one ((if c.dirty.speedSchedule then 1 else 0) + (if c.dirty.vibThresholds then 2 else 0) +
        (if c.dirty.slotMap then 4 else 0) + (if c.dirty.driveConstants then 8 else 0))] ++
      opt 1 (c.activation.map fun m => [flag (m = .serviceStation)]) ++ two c.generation ++ [one c.computedRow.val] ++
      opt 1 (c.pin.map fun r => [one r.val]) ++ [one c.rowInForce.val, flag c.frozen]
    let page3 := sgn2 p.acc ++ [sgn p.trim, flag p.prevLimited.a, flag p.prevLimited.b, one p.imbalanceCount,
      sgn p.lastSplit.a, sgn p.lastSplit.b, one l.motor.a.lmotEff, one l.motor.b.lmotEff, one l.motor.a.lgenEff,
      one l.motor.b.lgenEff, sgn l.motor.a.applied, sgn l.motor.b.applied, sgn l.motor.a.iref, sgn l.motor.b.iref,
      flag l.motor.a.limited, flag l.motor.b.limited, flag l.motor.a.clampApplied, flag l.motor.b.clampApplied] ++
      opt 1 (l.breakaway.map fun n => [one n]) ++ [one l.outcome.code, one l.motor.a.hold, one l.motor.b.hold,
      flag l.motor.a.reloaded, flag l.motor.b.reloaded] ++ previous l.motor.a ++ previous l.motor.b ++
      places 8 (l.shocks.map fun x => [one x.motor.code, x.tag, one x.age]) 3 ++
      [one l.motor.a.shockCount, one l.motor.b.shockCount]
    let page4 := sgn2 t.reg.a.acc ++ sgn2 t.reg.b.acc ++ [sgn t.reg.a.output, sgn t.reg.b.output, flag t.reg.a.saturated,
      flag t.reg.b.saturated, one t.reg.a.satCount, one t.reg.b.satCount, flag t.reg.a.satRaised, flag t.reg.b.satRaised,
      flag t.reg.a.overcurrent, flag t.reg.b.overcurrent]
    let vibPage := fun (k : Fin 4) =>
      let x := t.vib.channels[k]
      let w := x.window
      let y := x.conf
      opt 1 (x.lastSeq.map fun n => [one n]) ++ opt 2 (x.tracker.map sgn2) ++
      [one (w.sum / 4294967296), one (w.sum / 65536), one w.sum, one w.n, one w.received, one w.missed, one w.peak,
        one w.sector] ++ two x.lastMs ++
      [one x.lastPeak, one x.lastSector, one x.raw.code, one y.state.code, one y.alarm, one y.warn, one y.release, one y.dead,
        one y.persist, flag y.persistRaised, one x.oldBlocks, one x.missedBlocks, one x.voidWindows, one x.discarded,
        one (match c.active with
          | none => t.vib.ceiling.a
          | some b => t.vib.ceiling.get b.dc.g2.pinion[k])]
    let page9 := [one q.drive.code, one q.brake.code, one q.grant.code, flag q.pendingTakeover] ++
      (match q.recallTimer with
        | .stopped => [0, 0]
        | .counting us => [1, up 1000000 us]) ++
      [one q.recallCount, flag q.hot] ++
      (match q.turnTimer with
        | .idle => [0, 0]
        | .counting us => [1, up 1000000 us]
        | .paused us => [2, up 1000000 us]
        | .expired => [3, 0]) ++
      [sgn q.movement] ++ opt 1 (q.lastAngle.map fun n => [one n]) ++ [flag q.turnDue] ++
      (match q.overdue with
        | .stopped => [0, 0]
        | .counting us => [1, up 1000000 us]
        | .expired => [2, 0]) ++
      [sgn q.advance, one q.stopCount, flag q.turnComplete]
    let page10 := [flag t.tru.declared] ++
      opt 3 (t.tru.first.map fun x => [one x.cause.code, one x.who.code, sgn x.detail]) ++
      [t.tru.cycleTag, one t.tru.age] ++ places 4 (t.tru.later.map fun x => [one x.1.code, one x.2]) 2 ++
      [one t.tru.dropped] ++ opt 1 (t.tru.converterFault.a.map fun n => [one n]) ++
      opt 1 (t.tru.converterFault.b.map fun n => [one n]) ++
      [flag t.tru.standing.converter.a, flag t.tru.standing.converter.b, flag t.tru.standing.overcurrent.a,
       flag t.tru.standing.overcurrent.b, flag t.tru.standing.cycleLost, flag t.tru.standing.sampleLoss,
       flag t.tru.standing.referenceLoss]
    let readout := fun (code : Word) (x : ReadoutData) => [code, flag (x.manager = .serviceStation), one x.slot.val, one x.next,
      one x.remaining, one x.sent, flag x.aborted]
    let page11 := [one d.history.length] ++ opt 1 (d.history.getLast?.map fun x => [x.tag]) ++
      opt 1 (d.marker.map fun n => [one n]) ++ two d.seqCounter ++ opt 1 (d.currentSlot.map fun k => [one k.val]) ++
      (match d.readout with
        | .idle => [0, 0, 0, 0, 0, 0, 0]
        | .sending x => readout 1 x
        | .closing x => readout 2 x) ++
      (List.finRange 8).flatMap fun k => [one d.slots[k].state.code, flag d.slots[k].locked, flag d.slots[k].pinned]
    let page12 := [one (((List.finRange 15).map fun k => if t.rpt.attention[k] then 2 ^ k.val else 0).sum),
      one t.rpt.notices.length, flag t.rpt.overflow] ++
      (match t.rpt.flush with
        | .stopped => [0, 0]
        | .running us => [1, up 1000 us]
        | .flushDue => [2, 0])
    let pages := [page0, page1, page2, page3, page4, vibPage 0, vibPage 1, vibPage 2, vibPage 3, page9, page10, page11, page12]
    (exec (.describe a.addr tag) s = .next (s.answered a 1 tag .done
      ([0x0001, 0x0016, 1, one s.rp.strap.toNat, flag (a.manager = .serviceStation), flag (a.level = .commission),
        flag s.sched.active.isSome] ++ two s.sched.generation ++
        [flag s.sched.frozen, 32, 32, 4, 9, 2, 19, 4, 9, 2, 19, 4, 1024, 8, 512, 16, 2, 32, 8, 4, 15]))) ∧
    (12 < page.toNat → exec (.readStatus a.addr tag page) s = .next (s.answered a 2 tag .badArgument [])) ∧
    (∀ ws, pages[page.toNat]? = some ws → exec (.readStatus a.addr tag page) s = .next (s.answered a 2 tag .done ws)) ∧
    (s.highestPending = none ↔ ∀ j : Fin 15, s.rpt.attention[j] = false) ∧
    (s.highestPending = none → exec (.pollAttention a.addr tag) s = .next (s.answered a 3 tag .done [0, 0])) ∧
    (∀ k, s.highestPending = some k →
      s.rpt.attention[k.index] = true ∧
      (∀ j, s.rpt.attention[Attention.index j] = true → s.priorityOf j ≤ s.priorityOf k ∧
        (s.priorityOf j = s.priorityOf k → k.index ≤ j.index)) ∧
      let left := s.rpt.attention.set k.index false
      exec (.pollAttention a.addr tag) s =
        .next (State.answered a 3 tag .done [one (k.index.val + 1), one (left.toList.countP id)]
          { s with rpt := { s.rpt with attention := left } })) ∧
    (∀ k : Attention, s.priorityOf k = match s.sched.active with
      | none => 0
      | some b => b.dc.g3.priorities[k.index]) ∧
    (let clear := fun (x : Channel) => { x with conf := ⟨.normal, 0, 0, 0, 0, 0, false⟩ }
     let v := s.vib.channels
     exec (.clearAlarms a.addr tag) s = .next (State.answered a 13 tag .done []
      { s with vib := ⟨#v[clear v[0], clear v[1], clear v[2], clear v[3]], ⟨12288, 12288⟩⟩ }))

/-- R7, R129, R164, R165, R172, R174, R188: when a producer is ready; a fall of a place, as a frame of the queue has left, is owed to all
that are ready at it before any that becomes ready later, and some ready producer may always take; a producer that must wait, or finds 16
frames queued or has nothing to send, does nothing. Else its frame joins the tail, and what its rule says happens with it. That a producer
which has taken a place and is ready still is owed none, but has not become ready anew, is the model's reading (notes/assumptions/8.md,
DEDUCED). -/
def Obligations.FramesQueued : Prop :=
  ∀ s : State, s.forwardingOnly = false →
    let offers : List (Instr × Producer) :=
      [(.auxFrameQueued, .aux), (.noticeFrame, .notice), (.responseQueued .driveMaster, .reply .driveMaster),
       (.responseQueued .serviceStation, .reply .serviceStation), (.recordData, .record), (.recordEnd, .record)]
    let trigger := match s.sched.active with
      | none => 1
      | some b => b.dc.g3.noticeTrigger
    let unqueued := ∀ f ∈ s.rp.queue, f.kindCode ≠ kindRecordData
    let free := fun (p : Producer) => s.rp.queue.length < 16 ∧ ¬ s.mustWait p
    let served := fun (p : Producer) (t : State) => t.rp.waiters = s.rp.waiters.map fun ws =>
      if t.producerReady p then ws.map fun w => if w.producer = p then ⟨p, false⟩ else w
      else ws.filter fun w => w.producer ≠ p
    (∀ m, s.producerReady (.reply m) = true ↔ (s.rqh.get m).replies ≠ []) ∧
    (s.producerReady .notice = true ↔
      s.rpt.notices ≠ [] ∧ (trigger ≤ s.rpt.notices.length ∨ s.rpt.flush = .flushDue)) ∧
    (s.producerReady .record = true ↔ unqueued ∧ ∃ rd, s.recorder.readout = .closing rd ∨
      s.recorder.readout = .sending rd ∧ (s.rqh.get rd.manager).holder.state = .reading) ∧
    (s.producerReady .aux = true ↔ s.seq.outgoing ≠ none) ∧
    (∀ p, s.producerReady p = true → ∃ p', s.producerReady p' = true ∧ ¬ s.mustWait p') ∧
    (∀ g, s.rp.port = .general g → s.sendingRestart = false →
      ∃ (t : State) (older : List (List Waiter)), exec .transmissionEnd s = .next t ∧
        (let ready := Producer.all.filter t.producerReady
         let still := s.rp.waiters.map fun ws => ws.filter fun w => t.producerReady w.producer
         (ready = [] → t.rp.waiters = []) ∧
         (ready ≠ [] → t.rp.waiters = older ++ [ready.map fun p => ⟨p, true⟩] ∧ older.Sublist still ∧
           ∀ ws ∈ still, t.owes ws → ws ∈ older ∨ ws.map (·.producer) = ready))) ∧
    (∀ o ∈ offers, 16 ≤ s.rp.queue.length ∨ s.mustWait o.2 ∨ s.producerReady o.2 = false → exec o.1 s = .next s) ∧
    (free .aux → ∀ f, s.seq.outgoing = some f → ∃ t, exec .auxFrameQueued s = .next t ∧ t.rp.queue = s.rp.queue ++ [f] ∧
      t.seq = { s.seq with outgoing := none } ∧ served .aux t) ∧
    (free .notice → s.producerReady .notice = true →
      let reload := match s.sched.active with
        | none => 1000000
        | some b => b.dc.g3.noticeFlush * 1000
      let n := min 8 s.rpt.notices.length
      let words := (s.rpt.notices.take n).flatMap fun e =>
        [wordOfNat e.kind.code, wordOfNat e.causeCode, e.tag, wordOfNat e.who.code, wordOfInt e.detail]
      ∃ t, exec .noticeFrame s = .next t ∧
        t.rp.queue = s.rp.queue ++ [makeFrame 0 s.rp.strap kindNotice s.cycleTag
          (wordOfNat (n + if s.rpt.overflow then 32768 else 0) :: words)] ∧
        t.rpt = { s.rpt with notices := s.rpt.notices.drop n, overflow := false, flush := .running reload } ∧
        served .notice t) ∧
    (∀ m : Manager, free (.reply m) →
      let x := s.rqh.get m
      ∀ r rest, x.replies = r :: rest → ∃ t tag, exec (.responseQueued m) s = .next t ∧
        (tag = r.formedTag ∨ tag = s.cycleTag) ∧
        t.rp.queue = s.rp.queue ++ [makeFrame r.dest s.rp.strap kindResponse tag
          (r.kind :: r.tag :: wordOfNat r.result.code :: r.results)] ∧
        t.rqh = s.rqh.set m (match r.purpose with
          | .refusal => { x with replies := rest }
          | .abortAnswer => { x with replies := rest, abortAnswering := false }
          | .answer => { x with
            replies := rest
            holder := { x.holder with state :=
              if r.result = .done ∧ r.kind = 16 then .reading
              else if r.result = .done ∧ r.kind = 28 then .restarting else .free } }) ∧
        served (.reply m) t)

/-- R188: the flush timer's expiry: FLUSH_DUE with a notice held, STOPPED with none; an append reloads a timer that is not FLUSH_DUE,
and one with 32 entries held is dropped and sets the overflow flag. That the expiry command of a timer that is not RUNNING changes
nothing is the model's reading (notes/assumptions/6.md, DEDUCED). -/
def Obligations.NoticesFlushed : Prop :=
  ∀ (s : State) (us : Nat) (x : Raise),
    (s.rpt.flush = .running us → exec .flushTimerExpiry s =
      .next { s with rpt := { s.rpt with flush := if s.rpt.notices = [] then .stopped else .flushDue } }) ∧
    (s.rpt.flush = .stopped ∨ s.rpt.flush = .flushDue → exec .flushTimerExpiry s = .next s) ∧
    (let reload := match s.sched.active with
      | none => 1000000
      | some b => b.dc.g3.noticeFlush * 1000
     let set := s.rpt.attention.set x.kind.index true
     (s.rpt.notices.length < 32 → s.raiseAttention x = { s with rpt := { s.rpt with
      attention := set
      notices := s.rpt.notices ++ [⟨x.kind, x.causeCode, s.cycleTag, x.who, x.detail⟩]
      flush := if s.rpt.flush = .flushDue then .flushDue else .running reload } }) ∧
     (32 ≤ s.rpt.notices.length → s.raiseAttention x = { s with rpt := { s.rpt with attention := set, overflow := true } }))

/-! ## Restart and the resets (R8, R21, R43, R137, R169, R179 to R181, R196) -/

/-- R179: Restart refused by the tests of the rule in their order, or answered DONE with no other effect until its response has left.
R180, R8, R43, R137, R169: what the end of that transmission leaves. That RESTART_TAKES_EFFECT is that end, and else leaves the state as
it is, is the model's reading (notes/assumptions/5.md, DEDUCED). -/
def Obligations.RestartTaken : Prop :=
  ∀ s : State,
    (∀ (a : Asker) (tag : Word), s.takesFrom a →
      let answers := fun (code : ResultCode) => exec (.restart a.addr tag) s = .next (s.answered a 28 tag code [])
      let barred := s.seq.drive.isRunning = true ∨ s.seq.drive = .auxiliary ∨ s.seq.grant ≠ .none ∨
        ∃ k : Fin 8, s.recorder.slots[k].state = .capturing
      (a.level = .operate → answers .refusedAccess) ∧
      (a.level = .commission → barred → answers .refusedState) ∧
      (a.level = .commission → ¬ barred → answers .done)) ∧
    (s.sendingRestart = false → exec .restartTakesEffect s = .next s) ∧
    (s.sendingRestart = true → ∀ c ∈ [Instr.transmissionEnd, .restartTakesEffect],
      ∃ t, exec c s = .next t ∧
        t = { State.initial s.rp.strap with
          pending := s.pending, draws := s.draws, rp := t.rp, sched := t.sched, seq := t.seq, recorder := t.recorder
          rqh := { Requests.initial with overrun := s.rqh.overrun } } ∧
        t.rp = (match s.rp.buffer with
          | [] => RingPort.initial s.rp.strap
          | f :: rest => { RingPort.initial s.rp.strap with port := .forwarding f, buffer := rest }) ∧
        t.sched = ⟨s.sched.active, s.sched.active, ⟨false, false, false, false⟩, none, s.sched.generation, 0, none,
          s.sched.frozen⟩ ∧
        t.seq = { Sequencer.initial with
          hot := s.seq.hot
          turnDue := s.seq.turnDue
          overdue := s.seq.overdue
          turnTimer := if s.seq.hot then
              match s.sched.active with
                | none => .idle
                | some b => .paused (b.dc.g1.turnInterval * 1000000)
            else .idle } ∧
        t.recorder.seqCounter = s.recorder.seqCounter ∧ t.recorder.history = [] ∧ t.recorder.marker = none ∧
        t.recorder.currentSlot = none ∧ t.recorder.readout = .idle ∧
        ∀ k : Fin 8, t.recorder.slots[k] = { s.recorder.slots[k] with
          pinned := false
          state := if s.recorder.slots[k].state = .capturing then .truncated else s.recorder.slots[k].state })

/-- R181, R196, R8, R169: power-on and hardware reset leave every block at its reset value, with the straps then read; the record store
is kept at a hardware reset and at a power-on with BKUP_GOOD high, and emptied otherwise. -/
def Obligations.ResetsTaken : Prop :=
  ∀ (s : State) (straps : Addr) (good : Bool) (c : Instr),
    c = .powerOn straps good ∨ c = .hardwareReset straps ∧ good = true →
    ∃ t, exec c s = .next t ∧
      t = { State.initial straps with pending := s.pending, draws := s.draws, recorder := t.recorder } ∧
      t.seq.drive = .blocked ∧ t.sched.active = none ∧ t.sched.staged = none ∧ t.sched.frozen = false ∧ t.rp.strap = straps ∧
      (t.forwardingOnly = true ↔ straps = 0 ∨ straps = 63) ∧
      t.recorder.history = [] ∧ t.recorder.marker = none ∧ t.recorder.currentSlot = none ∧ t.recorder.readout = .idle ∧
      t.recorder.seqCounter = (if good then s.recorder.seqCounter else 0) ∧
      ∀ k : Fin 8, t.recorder.slots[k] = if good then { s.recorder.slots[k] with
          pinned := false
          state := if s.recorder.slots[k].state = .capturing then .truncated else s.recorder.slots[k].state }
        else RecordSlot.emptied

/-! ## What every step keeps -/

/-- R142, R67, R129, R131: trip declared is set exactly while the drive state is TRIPPED, a grant stands only in AUXILIARY and TRIPPED, and
AUXILIARY has one; every step keeps it. -/
def Obligations.DriveLawKept : Prop := ∀ s t : State, DriveLaw s → step s = .next t → DriveLaw t

/-- R35: every step keeps the active bank EMPTY, with the drive state BLOCKED, or valid. -/
def Obligations.BankLawKept : Prop := ∀ s t : State, BankLaw s → step s = .next t → BankLaw t

/-- R157: at most one record slot is CAPTURING, and only while the drive state is TRIPPED; every step keeps it. -/
def Obligations.CaptureLawKept : Prop := ∀ s t : State, CaptureLaw s → step s = .next t → CaptureLaw t

/-- R4, R6, R7, R70, R138, R153, R187: every step keeps each store within its places. R146: every step keeps the later causes distinct and
other than the first cause. -/
def Obligations.StoresKept : Prop :=
  ∀ s t : State, step s = .next t → (StoreLaw s → StoreLaw t) ∧ (LaterLaw s → LaterLaw t)

/-- R46, R47, R54, R81, R92: every step keeps the accumulators within the bounds of the bank in force. R107: every step keeps the vibration
ceilings what the confirmed states and the active bank give. -/
def Obligations.BoundsKept : Prop :=
  ∀ s t : State, step s = .next t → (AccumulatorLaw s → AccumulatorLaw t) ∧ (CeilingLaw s → CeilingLaw t)

/-- The reset state is safe, and so is the state that any power-on or hardware reset of a safe state leaves. -/
def Obligations.ResetsAreSafe : Prop :=
  Safe State.reset ∧ ∀ (s t : State) (straps : Addr) (good : Bool), Safe s →
    (exec (.powerOn straps good) s = .next t ∨ exec (.hardwareReset straps) s = .next t) → Safe t
end

