-- ==== Sys2Proof/Laws/State.lean ====
section
/-! SUPPORT. For each named update of the state, the fields it leaves as they were, and what it writes. -/

namespace Sys2Proof.Machine

variable (s : State)

/-! ### drawn -/

@[simp] theorem State.drawn_pending : s.drawn.pending = s.pending := rfl
@[simp] theorem State.drawn_rp : s.drawn.rp = s.rp := rfl
@[simp] theorem State.drawn_intake : s.drawn.intake = s.intake := rfl
@[simp] theorem State.drawn_sched : s.drawn.sched = s.sched := rfl
@[simp] theorem State.drawn_split : s.drawn.split = s.split := rfl
@[simp] theorem State.drawn_lim : s.drawn.lim = s.lim := rfl
@[simp] theorem State.drawn_reg : s.drawn.reg = s.reg := rfl
@[simp] theorem State.drawn_vib : s.drawn.vib = s.vib := rfl
@[simp] theorem State.drawn_seq : s.drawn.seq = s.seq := rfl
@[simp] theorem State.drawn_tru : s.drawn.tru = s.tru := rfl
@[simp] theorem State.drawn_recorder : s.drawn.recorder = s.recorder := rfl
@[simp] theorem State.drawn_rqh : s.drawn.rqh = s.rqh := rfl
@[simp] theorem State.drawn_rpt : s.drawn.rpt = s.rpt := rfl

/-! ### setDrive -/

@[simp] theorem State.setDrive_pending (d : DriveState) : (s.setDrive d).pending = s.pending := rfl
@[simp] theorem State.setDrive_draws (d : DriveState) : (s.setDrive d).draws = s.draws := rfl
@[simp] theorem State.setDrive_rp (d : DriveState) : (s.setDrive d).rp = s.rp := rfl
@[simp] theorem State.setDrive_intake (d : DriveState) : (s.setDrive d).intake = s.intake := rfl
@[simp] theorem State.setDrive_sched (d : DriveState) : (s.setDrive d).sched = s.sched := rfl
@[simp] theorem State.setDrive_split (d : DriveState) : (s.setDrive d).split = s.split := rfl
@[simp] theorem State.setDrive_lim (d : DriveState) : (s.setDrive d).lim = s.lim := rfl
@[simp] theorem State.setDrive_reg (d : DriveState) : (s.setDrive d).reg = s.reg := rfl
@[simp] theorem State.setDrive_vib (d : DriveState) : (s.setDrive d).vib = s.vib := rfl
@[simp] theorem State.setDrive_tru (d : DriveState) : (s.setDrive d).tru = s.tru := rfl
@[simp] theorem State.setDrive_recorder (d : DriveState) : (s.setDrive d).recorder = s.recorder := rfl
@[simp] theorem State.setDrive_rqh (d : DriveState) : (s.setDrive d).rqh = s.rqh := rfl
@[simp] theorem State.setDrive_rpt (d : DriveState) : (s.setDrive d).rpt = s.rpt := rfl

/-! ### endPin -/

@[simp] theorem State.endPin_pending : s.endPin.pending = s.pending := rfl
@[simp] theorem State.endPin_draws : s.endPin.draws = s.draws := rfl
@[simp] theorem State.endPin_rp : s.endPin.rp = s.rp := rfl
@[simp] theorem State.endPin_intake : s.endPin.intake = s.intake := rfl
@[simp] theorem State.endPin_split : s.endPin.split = s.split := rfl
@[simp] theorem State.endPin_lim : s.endPin.lim = s.lim := rfl
@[simp] theorem State.endPin_reg : s.endPin.reg = s.reg := rfl
@[simp] theorem State.endPin_vib : s.endPin.vib = s.vib := rfl
@[simp] theorem State.endPin_seq : s.endPin.seq = s.seq := rfl
@[simp] theorem State.endPin_tru : s.endPin.tru = s.tru := rfl
@[simp] theorem State.endPin_recorder : s.endPin.recorder = s.recorder := rfl
@[simp] theorem State.endPin_rqh : s.endPin.rqh = s.rqh := rfl
@[simp] theorem State.endPin_rpt : s.endPin.rpt = s.rpt := rfl

/-! ### raiseAttention -/

@[simp] theorem State.raiseAttention_pending (x : Raise) : (s.raiseAttention x).pending = s.pending := rfl
@[simp] theorem State.raiseAttention_draws (x : Raise) : (s.raiseAttention x).draws = s.draws := rfl
@[simp] theorem State.raiseAttention_rp (x : Raise) : (s.raiseAttention x).rp = s.rp := rfl
@[simp] theorem State.raiseAttention_intake (x : Raise) : (s.raiseAttention x).intake = s.intake := rfl
@[simp] theorem State.raiseAttention_sched (x : Raise) : (s.raiseAttention x).sched = s.sched := rfl
@[simp] theorem State.raiseAttention_split (x : Raise) : (s.raiseAttention x).split = s.split := rfl
@[simp] theorem State.raiseAttention_lim (x : Raise) : (s.raiseAttention x).lim = s.lim := rfl
@[simp] theorem State.raiseAttention_reg (x : Raise) : (s.raiseAttention x).reg = s.reg := rfl
@[simp] theorem State.raiseAttention_vib (x : Raise) : (s.raiseAttention x).vib = s.vib := rfl
@[simp] theorem State.raiseAttention_seq (x : Raise) : (s.raiseAttention x).seq = s.seq := rfl
@[simp] theorem State.raiseAttention_tru (x : Raise) : (s.raiseAttention x).tru = s.tru := rfl
@[simp] theorem State.raiseAttention_recorder (x : Raise) : (s.raiseAttention x).recorder = s.recorder := rfl
@[simp] theorem State.raiseAttention_rqh (x : Raise) : (s.raiseAttention x).rqh = s.rqh := rfl

/-! ### formReply -/

@[simp] theorem State.formReply_pending (m : Manager) (r : Reply) : (s.formReply m r).pending = s.pending := rfl
@[simp] theorem State.formReply_draws (m : Manager) (r : Reply) : (s.formReply m r).draws = s.draws := rfl
@[simp] theorem State.formReply_rp (m : Manager) (r : Reply) : (s.formReply m r).rp = s.rp := rfl
@[simp] theorem State.formReply_intake (m : Manager) (r : Reply) : (s.formReply m r).intake = s.intake := rfl
@[simp] theorem State.formReply_sched (m : Manager) (r : Reply) : (s.formReply m r).sched = s.sched := rfl
@[simp] theorem State.formReply_split (m : Manager) (r : Reply) : (s.formReply m r).split = s.split := rfl
@[simp] theorem State.formReply_lim (m : Manager) (r : Reply) : (s.formReply m r).lim = s.lim := rfl
@[simp] theorem State.formReply_reg (m : Manager) (r : Reply) : (s.formReply m r).reg = s.reg := rfl
@[simp] theorem State.formReply_vib (m : Manager) (r : Reply) : (s.formReply m r).vib = s.vib := rfl
@[simp] theorem State.formReply_seq (m : Manager) (r : Reply) : (s.formReply m r).seq = s.seq := rfl
@[simp] theorem State.formReply_tru (m : Manager) (r : Reply) : (s.formReply m r).tru = s.tru := rfl
@[simp] theorem State.formReply_recorder (m : Manager) (r : Reply) : (s.formReply m r).recorder = s.recorder := rfl
@[simp] theorem State.formReply_rpt (m : Manager) (r : Reply) : (s.formReply m r).rpt = s.rpt := rfl

/-! ### setHolder -/

@[simp] theorem State.setHolder_pending (m : Manager) (h : Holder) : (s.setHolder m h).pending = s.pending := rfl
@[simp] theorem State.setHolder_draws (m : Manager) (h : Holder) : (s.setHolder m h).draws = s.draws := rfl
@[simp] theorem State.setHolder_rp (m : Manager) (h : Holder) : (s.setHolder m h).rp = s.rp := rfl
@[simp] theorem State.setHolder_intake (m : Manager) (h : Holder) : (s.setHolder m h).intake = s.intake := rfl
@[simp] theorem State.setHolder_sched (m : Manager) (h : Holder) : (s.setHolder m h).sched = s.sched := rfl
@[simp] theorem State.setHolder_split (m : Manager) (h : Holder) : (s.setHolder m h).split = s.split := rfl
@[simp] theorem State.setHolder_lim (m : Manager) (h : Holder) : (s.setHolder m h).lim = s.lim := rfl
@[simp] theorem State.setHolder_reg (m : Manager) (h : Holder) : (s.setHolder m h).reg = s.reg := rfl
@[simp] theorem State.setHolder_vib (m : Manager) (h : Holder) : (s.setHolder m h).vib = s.vib := rfl
@[simp] theorem State.setHolder_seq (m : Manager) (h : Holder) : (s.setHolder m h).seq = s.seq := rfl
@[simp] theorem State.setHolder_tru (m : Manager) (h : Holder) : (s.setHolder m h).tru = s.tru := rfl
@[simp] theorem State.setHolder_recorder (m : Manager) (h : Holder) : (s.setHolder m h).recorder = s.recorder := rfl
@[simp] theorem State.setHolder_rpt (m : Manager) (h : Holder) : (s.setHolder m h).rpt = s.rpt := rfl

/-! ### commandOverrun -/

@[simp] theorem State.commandOverrun_pending : s.commandOverrun.pending = s.pending := rfl
@[simp] theorem State.commandOverrun_draws : s.commandOverrun.draws = s.draws := rfl
@[simp] theorem State.commandOverrun_rp : s.commandOverrun.rp = s.rp := rfl
@[simp] theorem State.commandOverrun_intake : s.commandOverrun.intake = s.intake := rfl
@[simp] theorem State.commandOverrun_sched : s.commandOverrun.sched = s.sched := rfl
@[simp] theorem State.commandOverrun_split : s.commandOverrun.split = s.split := rfl
@[simp] theorem State.commandOverrun_lim : s.commandOverrun.lim = s.lim := rfl
@[simp] theorem State.commandOverrun_reg : s.commandOverrun.reg = s.reg := rfl
@[simp] theorem State.commandOverrun_vib : s.commandOverrun.vib = s.vib := rfl
@[simp] theorem State.commandOverrun_seq : s.commandOverrun.seq = s.seq := rfl
@[simp] theorem State.commandOverrun_tru : s.commandOverrun.tru = s.tru := rfl
@[simp] theorem State.commandOverrun_recorder : s.commandOverrun.recorder = s.recorder := rfl
@[simp] theorem State.commandOverrun_rpt : s.commandOverrun.rpt = s.rpt := rfl

/-! ### countUnexpected -/

@[simp] theorem State.countUnexpected_pending : s.countUnexpected.pending = s.pending := rfl
@[simp] theorem State.countUnexpected_draws : s.countUnexpected.draws = s.draws := rfl
@[simp] theorem State.countUnexpected_intake : s.countUnexpected.intake = s.intake := rfl
@[simp] theorem State.countUnexpected_sched : s.countUnexpected.sched = s.sched := rfl
@[simp] theorem State.countUnexpected_split : s.countUnexpected.split = s.split := rfl
@[simp] theorem State.countUnexpected_lim : s.countUnexpected.lim = s.lim := rfl
@[simp] theorem State.countUnexpected_reg : s.countUnexpected.reg = s.reg := rfl
@[simp] theorem State.countUnexpected_vib : s.countUnexpected.vib = s.vib := rfl
@[simp] theorem State.countUnexpected_seq : s.countUnexpected.seq = s.seq := rfl
@[simp] theorem State.countUnexpected_tru : s.countUnexpected.tru = s.tru := rfl
@[simp] theorem State.countUnexpected_recorder : s.countUnexpected.recorder = s.recorder := rfl
@[simp] theorem State.countUnexpected_rqh : s.countUnexpected.rqh = s.rqh := rfl
@[simp] theorem State.countUnexpected_rpt : s.countUnexpected.rpt = s.rpt := rfl

/-! ### countLengthError -/

@[simp] theorem State.countLengthError_pending : s.countLengthError.pending = s.pending := rfl
@[simp] theorem State.countLengthError_draws : s.countLengthError.draws = s.draws := rfl
@[simp] theorem State.countLengthError_intake : s.countLengthError.intake = s.intake := rfl
@[simp] theorem State.countLengthError_sched : s.countLengthError.sched = s.sched := rfl
@[simp] theorem State.countLengthError_split : s.countLengthError.split = s.split := rfl
@[simp] theorem State.countLengthError_lim : s.countLengthError.lim = s.lim := rfl
@[simp] theorem State.countLengthError_reg : s.countLengthError.reg = s.reg := rfl
@[simp] theorem State.countLengthError_vib : s.countLengthError.vib = s.vib := rfl
@[simp] theorem State.countLengthError_seq : s.countLengthError.seq = s.seq := rfl
@[simp] theorem State.countLengthError_tru : s.countLengthError.tru = s.tru := rfl
@[simp] theorem State.countLengthError_recorder : s.countLengthError.recorder = s.recorder := rfl
@[simp] theorem State.countLengthError_rqh : s.countLengthError.rqh = s.rqh := rfl
@[simp] theorem State.countLengthError_rpt : s.countLengthError.rpt = s.rpt := rfl

/-! ### countCheckError -/

@[simp] theorem State.countCheckError_pending : s.countCheckError.pending = s.pending := rfl
@[simp] theorem State.countCheckError_draws : s.countCheckError.draws = s.draws := rfl
@[simp] theorem State.countCheckError_intake : s.countCheckError.intake = s.intake := rfl
@[simp] theorem State.countCheckError_sched : s.countCheckError.sched = s.sched := rfl
@[simp] theorem State.countCheckError_split : s.countCheckError.split = s.split := rfl
@[simp] theorem State.countCheckError_lim : s.countCheckError.lim = s.lim := rfl
@[simp] theorem State.countCheckError_reg : s.countCheckError.reg = s.reg := rfl
@[simp] theorem State.countCheckError_vib : s.countCheckError.vib = s.vib := rfl
@[simp] theorem State.countCheckError_seq : s.countCheckError.seq = s.seq := rfl
@[simp] theorem State.countCheckError_tru : s.countCheckError.tru = s.tru := rfl
@[simp] theorem State.countCheckError_recorder : s.countCheckError.recorder = s.recorder := rfl
@[simp] theorem State.countCheckError_rqh : s.countCheckError.rqh = s.rqh := rfl
@[simp] theorem State.countCheckError_rpt : s.countCheckError.rpt = s.rpt := rfl

/-! ### portIdle -/

@[simp] theorem State.portIdle_pending : s.portIdle.pending = s.pending := rfl
@[simp] theorem State.portIdle_draws : s.portIdle.draws = s.draws := rfl
@[simp] theorem State.portIdle_intake : s.portIdle.intake = s.intake := rfl
@[simp] theorem State.portIdle_sched : s.portIdle.sched = s.sched := rfl
@[simp] theorem State.portIdle_split : s.portIdle.split = s.split := rfl
@[simp] theorem State.portIdle_lim : s.portIdle.lim = s.lim := rfl
@[simp] theorem State.portIdle_reg : s.portIdle.reg = s.reg := rfl
@[simp] theorem State.portIdle_vib : s.portIdle.vib = s.vib := rfl
@[simp] theorem State.portIdle_seq : s.portIdle.seq = s.seq := rfl
@[simp] theorem State.portIdle_tru : s.portIdle.tru = s.tru := rfl
@[simp] theorem State.portIdle_recorder : s.portIdle.recorder = s.recorder := rfl
@[simp] theorem State.portIdle_rqh : s.portIdle.rqh = s.rqh := rfl
@[simp] theorem State.portIdle_rpt : s.portIdle.rpt = s.rpt := rfl

/-! ### setChannel -/

@[simp] theorem State.setChannel_pending (k : Fin 4) (x : Channel) : (s.setChannel k x).pending = s.pending := rfl
@[simp] theorem State.setChannel_draws (k : Fin 4) (x : Channel) : (s.setChannel k x).draws = s.draws := rfl
@[simp] theorem State.setChannel_rp (k : Fin 4) (x : Channel) : (s.setChannel k x).rp = s.rp := rfl
@[simp] theorem State.setChannel_intake (k : Fin 4) (x : Channel) : (s.setChannel k x).intake = s.intake := rfl
@[simp] theorem State.setChannel_sched (k : Fin 4) (x : Channel) : (s.setChannel k x).sched = s.sched := rfl
@[simp] theorem State.setChannel_split (k : Fin 4) (x : Channel) : (s.setChannel k x).split = s.split := rfl
@[simp] theorem State.setChannel_lim (k : Fin 4) (x : Channel) : (s.setChannel k x).lim = s.lim := rfl
@[simp] theorem State.setChannel_reg (k : Fin 4) (x : Channel) : (s.setChannel k x).reg = s.reg := rfl
@[simp] theorem State.setChannel_seq (k : Fin 4) (x : Channel) : (s.setChannel k x).seq = s.seq := rfl
@[simp] theorem State.setChannel_tru (k : Fin 4) (x : Channel) : (s.setChannel k x).tru = s.tru := rfl
@[simp] theorem State.setChannel_recorder (k : Fin 4) (x : Channel) : (s.setChannel k x).recorder = s.recorder := rfl
@[simp] theorem State.setChannel_rqh (k : Fin 4) (x : Channel) : (s.setChannel k x).rqh = s.rqh := rfl
@[simp] theorem State.setChannel_rpt (k : Fin 4) (x : Channel) : (s.setChannel k x).rpt = s.rpt := rfl

/-! ### mapChannels -/

@[simp] theorem State.mapChannels_pending (f : Fin 4 → Channel → Channel) : (s.mapChannels f).pending = s.pending := rfl
@[simp] theorem State.mapChannels_draws (f : Fin 4 → Channel → Channel) : (s.mapChannels f).draws = s.draws := rfl
@[simp] theorem State.mapChannels_rp (f : Fin 4 → Channel → Channel) : (s.mapChannels f).rp = s.rp := rfl
@[simp] theorem State.mapChannels_intake (f : Fin 4 → Channel → Channel) : (s.mapChannels f).intake = s.intake := rfl
@[simp] theorem State.mapChannels_sched (f : Fin 4 → Channel → Channel) : (s.mapChannels f).sched = s.sched := rfl
@[simp] theorem State.mapChannels_split (f : Fin 4 → Channel → Channel) : (s.mapChannels f).split = s.split := rfl
@[simp] theorem State.mapChannels_lim (f : Fin 4 → Channel → Channel) : (s.mapChannels f).lim = s.lim := rfl
@[simp] theorem State.mapChannels_reg (f : Fin 4 → Channel → Channel) : (s.mapChannels f).reg = s.reg := rfl
@[simp] theorem State.mapChannels_seq (f : Fin 4 → Channel → Channel) : (s.mapChannels f).seq = s.seq := rfl
@[simp] theorem State.mapChannels_tru (f : Fin 4 → Channel → Channel) : (s.mapChannels f).tru = s.tru := rfl
@[simp] theorem State.mapChannels_recorder (f : Fin 4 → Channel → Channel) : (s.mapChannels f).recorder = s.recorder := rfl
@[simp] theorem State.mapChannels_rqh (f : Fin 4 → Channel → Channel) : (s.mapChannels f).rqh = s.rqh := rfl
@[simp] theorem State.mapChannels_rpt (f : Fin 4 → Channel → Channel) : (s.mapChannels f).rpt = s.rpt := rfl

/-! ### computeRow -/

@[simp] theorem State.computeRow_pending (b : Bank) (v : Int) : (s.computeRow b v).pending = s.pending := rfl
@[simp] theorem State.computeRow_draws (b : Bank) (v : Int) : (s.computeRow b v).draws = s.draws := rfl
@[simp] theorem State.computeRow_rp (b : Bank) (v : Int) : (s.computeRow b v).rp = s.rp := rfl
@[simp] theorem State.computeRow_intake (b : Bank) (v : Int) : (s.computeRow b v).intake = s.intake := rfl
@[simp] theorem State.computeRow_split (b : Bank) (v : Int) : (s.computeRow b v).split = s.split := rfl
@[simp] theorem State.computeRow_lim (b : Bank) (v : Int) : (s.computeRow b v).lim = s.lim := rfl
@[simp] theorem State.computeRow_reg (b : Bank) (v : Int) : (s.computeRow b v).reg = s.reg := rfl
@[simp] theorem State.computeRow_vib (b : Bank) (v : Int) : (s.computeRow b v).vib = s.vib := rfl
@[simp] theorem State.computeRow_seq (b : Bank) (v : Int) : (s.computeRow b v).seq = s.seq := rfl
@[simp] theorem State.computeRow_tru (b : Bank) (v : Int) : (s.computeRow b v).tru = s.tru := rfl
@[simp] theorem State.computeRow_recorder (b : Bank) (v : Int) : (s.computeRow b v).recorder = s.recorder := rfl
@[simp] theorem State.computeRow_rqh (b : Bank) (v : Int) : (s.computeRow b v).rqh = s.rqh := rfl
@[simp] theorem State.computeRow_rpt (b : Bank) (v : Int) : (s.computeRow b v).rpt = s.rpt := rfl

/-! ### reloadTurnTimer -/

@[simp] theorem State.reloadTurnTimer_pending (b : Bank) : (s.reloadTurnTimer b).pending = s.pending := rfl
@[simp] theorem State.reloadTurnTimer_draws (b : Bank) : (s.reloadTurnTimer b).draws = s.draws := rfl
@[simp] theorem State.reloadTurnTimer_rp (b : Bank) : (s.reloadTurnTimer b).rp = s.rp := rfl
@[simp] theorem State.reloadTurnTimer_intake (b : Bank) : (s.reloadTurnTimer b).intake = s.intake := rfl
@[simp] theorem State.reloadTurnTimer_sched (b : Bank) : (s.reloadTurnTimer b).sched = s.sched := rfl
@[simp] theorem State.reloadTurnTimer_split (b : Bank) : (s.reloadTurnTimer b).split = s.split := rfl
@[simp] theorem State.reloadTurnTimer_lim (b : Bank) : (s.reloadTurnTimer b).lim = s.lim := rfl
@[simp] theorem State.reloadTurnTimer_reg (b : Bank) : (s.reloadTurnTimer b).reg = s.reg := rfl
@[simp] theorem State.reloadTurnTimer_vib (b : Bank) : (s.reloadTurnTimer b).vib = s.vib := rfl
@[simp] theorem State.reloadTurnTimer_tru (b : Bank) : (s.reloadTurnTimer b).tru = s.tru := rfl
@[simp] theorem State.reloadTurnTimer_recorder (b : Bank) : (s.reloadTurnTimer b).recorder = s.recorder := rfl
@[simp] theorem State.reloadTurnTimer_rqh (b : Bank) : (s.reloadTurnTimer b).rqh = s.rqh := rfl
@[simp] theorem State.reloadTurnTimer_rpt (b : Bank) : (s.reloadTurnTimer b).rpt = s.rpt := rfl

/-! ### clearTurnDue -/

@[simp] theorem State.clearTurnDue_pending : s.clearTurnDue.pending = s.pending := rfl
@[simp] theorem State.clearTurnDue_draws : s.clearTurnDue.draws = s.draws := rfl
@[simp] theorem State.clearTurnDue_rp : s.clearTurnDue.rp = s.rp := rfl
@[simp] theorem State.clearTurnDue_intake : s.clearTurnDue.intake = s.intake := rfl
@[simp] theorem State.clearTurnDue_sched : s.clearTurnDue.sched = s.sched := rfl
@[simp] theorem State.clearTurnDue_split : s.clearTurnDue.split = s.split := rfl
@[simp] theorem State.clearTurnDue_lim : s.clearTurnDue.lim = s.lim := rfl
@[simp] theorem State.clearTurnDue_reg : s.clearTurnDue.reg = s.reg := rfl
@[simp] theorem State.clearTurnDue_vib : s.clearTurnDue.vib = s.vib := rfl
@[simp] theorem State.clearTurnDue_tru : s.clearTurnDue.tru = s.tru := rfl
@[simp] theorem State.clearTurnDue_recorder : s.clearTurnDue.recorder = s.recorder := rfl
@[simp] theorem State.clearTurnDue_rqh : s.clearTurnDue.rqh = s.rqh := rfl
@[simp] theorem State.clearTurnDue_rpt : s.clearTurnDue.rpt = s.rpt := rfl

/-! ### intervalRestarted -/

@[simp] theorem State.intervalRestarted_pending (b : Bank) : (s.intervalRestarted b).pending = s.pending := rfl
@[simp] theorem State.intervalRestarted_draws (b : Bank) : (s.intervalRestarted b).draws = s.draws := rfl
@[simp] theorem State.intervalRestarted_rp (b : Bank) : (s.intervalRestarted b).rp = s.rp := rfl
@[simp] theorem State.intervalRestarted_intake (b : Bank) : (s.intervalRestarted b).intake = s.intake := rfl
@[simp] theorem State.intervalRestarted_sched (b : Bank) : (s.intervalRestarted b).sched = s.sched := rfl
@[simp] theorem State.intervalRestarted_split (b : Bank) : (s.intervalRestarted b).split = s.split := rfl
@[simp] theorem State.intervalRestarted_lim (b : Bank) : (s.intervalRestarted b).lim = s.lim := rfl
@[simp] theorem State.intervalRestarted_reg (b : Bank) : (s.intervalRestarted b).reg = s.reg := rfl
@[simp] theorem State.intervalRestarted_vib (b : Bank) : (s.intervalRestarted b).vib = s.vib := rfl
@[simp] theorem State.intervalRestarted_tru (b : Bank) : (s.intervalRestarted b).tru = s.tru := rfl
@[simp] theorem State.intervalRestarted_recorder (b : Bank) : (s.intervalRestarted b).recorder = s.recorder := rfl
@[simp] theorem State.intervalRestarted_rqh (b : Bank) : (s.intervalRestarted b).rqh = s.rqh := rfl
@[simp] theorem State.intervalRestarted_rpt (b : Bank) : (s.intervalRestarted b).rpt = s.rpt := rfl

/-! ### informEntry -/

@[simp] theorem State.informEntry_pending : s.informEntry.pending = s.pending := rfl
@[simp] theorem State.informEntry_draws : s.informEntry.draws = s.draws := rfl
@[simp] theorem State.informEntry_rp : s.informEntry.rp = s.rp := rfl
@[simp] theorem State.informEntry_intake : s.informEntry.intake = s.intake := rfl
@[simp] theorem State.informEntry_sched : s.informEntry.sched = s.sched := rfl
@[simp] theorem State.informEntry_vib : s.informEntry.vib = s.vib := rfl
@[simp] theorem State.informEntry_seq : s.informEntry.seq = s.seq := rfl
@[simp] theorem State.informEntry_tru : s.informEntry.tru = s.tru := rfl
@[simp] theorem State.informEntry_recorder : s.informEntry.recorder = s.recorder := rfl
@[simp] theorem State.informEntry_rqh : s.informEntry.rqh = s.rqh := rfl
@[simp] theorem State.informEntry_rpt : s.informEntry.rpt = s.rpt := rfl

/-! ### tripMark -/

@[simp] theorem State.tripMark_pending : s.tripMark.pending = s.pending := rfl
@[simp] theorem State.tripMark_draws : s.tripMark.draws = s.draws := rfl
@[simp] theorem State.tripMark_rp : s.tripMark.rp = s.rp := rfl
@[simp] theorem State.tripMark_intake : s.tripMark.intake = s.intake := rfl
@[simp] theorem State.tripMark_sched : s.tripMark.sched = s.sched := rfl
@[simp] theorem State.tripMark_split : s.tripMark.split = s.split := rfl
@[simp] theorem State.tripMark_lim : s.tripMark.lim = s.lim := rfl
@[simp] theorem State.tripMark_reg : s.tripMark.reg = s.reg := rfl
@[simp] theorem State.tripMark_vib : s.tripMark.vib = s.vib := rfl
@[simp] theorem State.tripMark_seq : s.tripMark.seq = s.seq := rfl
@[simp] theorem State.tripMark_recorder : s.tripMark.recorder = s.recorder := rfl
@[simp] theorem State.tripMark_rqh : s.tripMark.rqh = s.rqh := rfl
@[simp] theorem State.tripMark_rpt : s.tripMark.rpt = s.rpt := rfl

/-! ### forgetTorque -/

@[simp] theorem State.forgetTorque_pending (m : Motor) : (s.forgetTorque m).pending = s.pending := rfl
@[simp] theorem State.forgetTorque_draws (m : Motor) : (s.forgetTorque m).draws = s.draws := rfl
@[simp] theorem State.forgetTorque_rp (m : Motor) : (s.forgetTorque m).rp = s.rp := rfl
@[simp] theorem State.forgetTorque_intake (m : Motor) : (s.forgetTorque m).intake = s.intake := rfl
@[simp] theorem State.forgetTorque_sched (m : Motor) : (s.forgetTorque m).sched = s.sched := rfl
@[simp] theorem State.forgetTorque_split (m : Motor) : (s.forgetTorque m).split = s.split := rfl
@[simp] theorem State.forgetTorque_reg (m : Motor) : (s.forgetTorque m).reg = s.reg := rfl
@[simp] theorem State.forgetTorque_vib (m : Motor) : (s.forgetTorque m).vib = s.vib := rfl
@[simp] theorem State.forgetTorque_seq (m : Motor) : (s.forgetTorque m).seq = s.seq := rfl
@[simp] theorem State.forgetTorque_tru (m : Motor) : (s.forgetTorque m).tru = s.tru := rfl
@[simp] theorem State.forgetTorque_recorder (m : Motor) : (s.forgetTorque m).recorder = s.recorder := rfl
@[simp] theorem State.forgetTorque_rqh (m : Motor) : (s.forgetTorque m).rqh = s.rqh := rfl
@[simp] theorem State.forgetTorque_rpt (m : Motor) : (s.forgetTorque m).rpt = s.rpt := rfl

/-! ### idleEvent -/

@[simp] theorem State.idleEvent_pending (b : Bank) : (s.idleEvent b).pending = s.pending := rfl
@[simp] theorem State.idleEvent_draws (b : Bank) : (s.idleEvent b).draws = s.draws := rfl
@[simp] theorem State.idleEvent_rp (b : Bank) : (s.idleEvent b).rp = s.rp := rfl
@[simp] theorem State.idleEvent_intake (b : Bank) : (s.idleEvent b).intake = s.intake := rfl
@[simp] theorem State.idleEvent_sched (b : Bank) : (s.idleEvent b).sched = s.sched := rfl
@[simp] theorem State.idleEvent_reg (b : Bank) : (s.idleEvent b).reg = s.reg := rfl
@[simp] theorem State.idleEvent_vib (b : Bank) : (s.idleEvent b).vib = s.vib := rfl
@[simp] theorem State.idleEvent_seq (b : Bank) : (s.idleEvent b).seq = s.seq := rfl
@[simp] theorem State.idleEvent_tru (b : Bank) : (s.idleEvent b).tru = s.tru := rfl
@[simp] theorem State.idleEvent_recorder (b : Bank) : (s.idleEvent b).recorder = s.recorder := rfl
@[simp] theorem State.idleEvent_rqh (b : Bank) : (s.idleEvent b).rqh = s.rqh := rfl
@[simp] theorem State.idleEvent_rpt (b : Bank) : (s.idleEvent b).rpt = s.rpt := rfl

/-! ### openCycle -/

@[simp] theorem State.openCycle_pending (tag : Word) : (s.openCycle tag).pending = s.pending := rfl
@[simp] theorem State.openCycle_draws (tag : Word) : (s.openCycle tag).draws = s.draws := rfl
@[simp] theorem State.openCycle_rp (tag : Word) : (s.openCycle tag).rp = s.rp := rfl
@[simp] theorem State.openCycle_sched (tag : Word) : (s.openCycle tag).sched = s.sched := rfl
@[simp] theorem State.openCycle_split (tag : Word) : (s.openCycle tag).split = s.split := rfl
@[simp] theorem State.openCycle_reg (tag : Word) : (s.openCycle tag).reg = s.reg := rfl
@[simp] theorem State.openCycle_vib (tag : Word) : (s.openCycle tag).vib = s.vib := rfl
@[simp] theorem State.openCycle_seq (tag : Word) : (s.openCycle tag).seq = s.seq := rfl
@[simp] theorem State.openCycle_tru (tag : Word) : (s.openCycle tag).tru = s.tru := rfl
@[simp] theorem State.openCycle_recorder (tag : Word) : (s.openCycle tag).recorder = s.recorder := rfl
@[simp] theorem State.openCycle_rqh (tag : Word) : (s.openCycle tag).rqh = s.rqh := rfl
@[simp] theorem State.openCycle_rpt (tag : Word) : (s.openCycle tag).rpt = s.rpt := rfl

/-! ### countTimers -/

@[simp] theorem State.countTimers_pending : s.countTimers.pending = s.pending := rfl
@[simp] theorem State.countTimers_draws : s.countTimers.draws = s.draws := rfl
@[simp] theorem State.countTimers_rp : s.countTimers.rp = s.rp := rfl
@[simp] theorem State.countTimers_sched : s.countTimers.sched = s.sched := rfl
@[simp] theorem State.countTimers_split : s.countTimers.split = s.split := rfl
@[simp] theorem State.countTimers_lim : s.countTimers.lim = s.lim := rfl
@[simp] theorem State.countTimers_reg : s.countTimers.reg = s.reg := rfl
@[simp] theorem State.countTimers_vib : s.countTimers.vib = s.vib := rfl
@[simp] theorem State.countTimers_tru : s.countTimers.tru = s.tru := rfl
@[simp] theorem State.countTimers_recorder : s.countTimers.recorder = s.recorder := rfl
@[simp] theorem State.countTimers_rqh : s.countTimers.rqh = s.rqh := rfl

/-! ### answered -/

@[simp] theorem State.answered_pending (a : Asker) (kind tag : Word) (c : ResultCode) (ws : List Word) : (s.answered a kind tag c ws).pending = s.pending := rfl
@[simp] theorem State.answered_draws (a : Asker) (kind tag : Word) (c : ResultCode) (ws : List Word) : (s.answered a kind tag c ws).draws = s.draws := rfl
@[simp] theorem State.answered_rp (a : Asker) (kind tag : Word) (c : ResultCode) (ws : List Word) : (s.answered a kind tag c ws).rp = s.rp := rfl
@[simp] theorem State.answered_intake (a : Asker) (kind tag : Word) (c : ResultCode) (ws : List Word) : (s.answered a kind tag c ws).intake = s.intake := rfl
@[simp] theorem State.answered_sched (a : Asker) (kind tag : Word) (c : ResultCode) (ws : List Word) : (s.answered a kind tag c ws).sched = s.sched := rfl
@[simp] theorem State.answered_split (a : Asker) (kind tag : Word) (c : ResultCode) (ws : List Word) : (s.answered a kind tag c ws).split = s.split := rfl
@[simp] theorem State.answered_lim (a : Asker) (kind tag : Word) (c : ResultCode) (ws : List Word) : (s.answered a kind tag c ws).lim = s.lim := rfl
@[simp] theorem State.answered_reg (a : Asker) (kind tag : Word) (c : ResultCode) (ws : List Word) : (s.answered a kind tag c ws).reg = s.reg := rfl
@[simp] theorem State.answered_vib (a : Asker) (kind tag : Word) (c : ResultCode) (ws : List Word) : (s.answered a kind tag c ws).vib = s.vib := rfl
@[simp] theorem State.answered_seq (a : Asker) (kind tag : Word) (c : ResultCode) (ws : List Word) : (s.answered a kind tag c ws).seq = s.seq := rfl
@[simp] theorem State.answered_tru (a : Asker) (kind tag : Word) (c : ResultCode) (ws : List Word) : (s.answered a kind tag c ws).tru = s.tru := rfl
@[simp] theorem State.answered_recorder (a : Asker) (kind tag : Word) (c : ResultCode) (ws : List Word) : (s.answered a kind tag c ws).recorder = s.recorder := rfl
@[simp] theorem State.answered_rpt (a : Asker) (kind tag : Word) (c : ResultCode) (ws : List Word) : (s.answered a kind tag c ws).rpt = s.rpt := rfl

/-! ### taking -/

@[simp] theorem State.taking_pending (a : Asker) (tag : Word) : (s.taking a tag).pending = s.pending := rfl
@[simp] theorem State.taking_draws (a : Asker) (tag : Word) : (s.taking a tag).draws = s.draws := rfl
@[simp] theorem State.taking_rp (a : Asker) (tag : Word) : (s.taking a tag).rp = s.rp := rfl
@[simp] theorem State.taking_intake (a : Asker) (tag : Word) : (s.taking a tag).intake = s.intake := rfl
@[simp] theorem State.taking_sched (a : Asker) (tag : Word) : (s.taking a tag).sched = s.sched := rfl
@[simp] theorem State.taking_split (a : Asker) (tag : Word) : (s.taking a tag).split = s.split := rfl
@[simp] theorem State.taking_lim (a : Asker) (tag : Word) : (s.taking a tag).lim = s.lim := rfl
@[simp] theorem State.taking_reg (a : Asker) (tag : Word) : (s.taking a tag).reg = s.reg := rfl
@[simp] theorem State.taking_vib (a : Asker) (tag : Word) : (s.taking a tag).vib = s.vib := rfl
@[simp] theorem State.taking_seq (a : Asker) (tag : Word) : (s.taking a tag).seq = s.seq := rfl
@[simp] theorem State.taking_tru (a : Asker) (tag : Word) : (s.taking a tag).tru = s.tru := rfl
@[simp] theorem State.taking_recorder (a : Asker) (tag : Word) : (s.taking a tag).recorder = s.recorder := rfl
@[simp] theorem State.taking_rpt (a : Asker) (tag : Word) : (s.taking a tag).rpt = s.rpt := rfl

/-! ### What the updates write -/

@[simp] theorem State.drawn_draws : s.drawn.draws = s.draws + 1 := rfl
@[simp] theorem State.setDrive_drive (d : DriveState) : (s.setDrive d).seq.drive = d := rfl
@[simp] theorem State.setDrive_grant (d : DriveState) : (s.setDrive d).seq.grant = s.seq.grant := rfl
@[simp] theorem State.setDrive_pendingTakeover (d : DriveState) :
    (s.setDrive d).seq.pendingTakeover = s.seq.pendingTakeover := rfl
@[simp] theorem State.setDrive_turnTimer (d : DriveState) : (s.setDrive d).seq.turnTimer = s.seq.turnTimer.follow d := rfl
@[simp] theorem State.endPin_pin : s.endPin.sched.pin = none := rfl
@[simp] theorem State.endPin_active : s.endPin.sched.active = s.sched.active := rfl
@[simp] theorem State.endPin_activation : s.endPin.sched.activation = s.sched.activation := rfl
@[simp] theorem State.endPin_staged : s.endPin.sched.staged = s.sched.staged := rfl
@[simp] theorem State.computeRow_active (b : Bank) (v : Int) : (s.computeRow b v).sched.active = s.sched.active := rfl
@[simp] theorem State.computeRow_activation (b : Bank) (v : Int) :
    (s.computeRow b v).sched.activation = s.sched.activation := rfl
@[simp] theorem State.computeRow_staged (b : Bank) (v : Int) : (s.computeRow b v).sched.staged = s.sched.staged := rfl
@[simp] theorem State.reloadTurnTimer_drive (b : Bank) : (s.reloadTurnTimer b).seq.drive = s.seq.drive := rfl
@[simp] theorem State.clearTurnDue_drive : s.clearTurnDue.seq.drive = s.seq.drive := rfl
@[simp] theorem State.intervalRestarted_drive (b : Bank) : (s.intervalRestarted b).seq.drive = s.seq.drive := rfl
@[simp] theorem State.intervalRestarted_grant (b : Bank) : (s.intervalRestarted b).seq.grant = s.seq.grant := rfl
@[simp] theorem State.intervalRestarted_pendingTakeover (b : Bank) :
    (s.intervalRestarted b).seq.pendingTakeover = s.seq.pendingTakeover := rfl
@[simp] theorem State.tripMark_declared : s.tripMark.tru.declared = s.tru.declared := rfl
@[simp] theorem State.tripMark_later : s.tripMark.tru.later = s.tru.later := rfl
@[simp] theorem State.openCycle_cycle (tag : Word) : (s.openCycle tag).intake.cycle = some tag := rfl
@[simp] theorem State.raiseAttention_attention (x : Raise) :
    (s.raiseAttention x).rpt.attention = s.rpt.attention.set x.kind.index true := by
  simp only [State.raiseAttention, Reporter.append]
  split <;> rfl

/-! ### Two managers, two motors -/

@[simp] theorem Requests.get_set (q : Requests) (m : Manager) (x : ManagerState) : (q.set m x).get m = x := by
  cases m <;> rfl

@[simp] theorem Requests.set_overrun (q : Requests) (m : Manager) (x : ManagerState) : (q.set m x).overrun = q.overrun := by
  cases m <;> rfl

@[simp] theorem Requests.set_set (q : Requests) (m : Manager) (x y : ManagerState) : (q.set m x).set m y = q.set m y := by
  cases m <;> rfl

@[simp] theorem Requests.set_get (q : Requests) (m : Manager) : q.set m (q.get m) = q := by cases m <;> rfl

@[simp] theorem PerMotor.get_set {α : Type} (p : PerMotor α) (m : Motor) (x : α) : (p.set m x).get m = x := by
  cases m <;> rfl

@[simp] theorem PerMotor.set_get {α : Type} (p : PerMotor α) (m : Motor) : p.set m (p.get m) = p := by cases m <;> rfl

theorem PerMotor.get_set_ne {α : Type} (p : PerMotor α) {m n : Motor} (x : α) (h : m ≠ n) : (p.set m x).get n = p.get n := by
  cases m <;> cases n <;> first | rfl | exact absurd rfl h

end Sys2Proof.Machine
end

