-- ==== Sys2Proof/Laws/Ops.lean ====
section
/-! SUPPORT. What each shared operation can do: the free orders, the fields an operation leaves alone, the places it keeps. -/

namespace Sys2Proof.Machine

/-! ## Free orders -/

/-- Two actions in either order: one of the two compositions, after one draw. -/
theorem inEitherOrder_cases (f g : State → State) (s : State) :
    inEitherOrder f g s = g (f s.drawn) ∨ inEitherOrder f g s = f (g s.drawn) := by
  unfold inEitherOrder
  split
  · exact .inl rfl
  · exact .inr rfl

/-- What both actions and a draw keep, two actions in either order keep. -/
theorem inEitherOrder_keeps {P : State → Prop} {f g : State → State} (hd : ∀ s, P s → P s.drawn)
    (hf : ∀ s, P s → P (f s)) (hg : ∀ s, P s → P (g s)) {s : State} (h : P s) : P (inEitherOrder f g s) := by
  rcases inEitherOrder_cases f g s with e | e
  · exact e ▸ hg _ (hf _ (hd _ h))
  · exact e ▸ hf _ (hg _ (hd _ h))

/-- What every action of a list and a draw keep, the actions in any order keep. -/
theorem inAnyOrder_keeps {P : State → Prop} (hd : ∀ s, P s → P s.drawn) :
    ∀ (n : Nat) (acts : List (State → State)) (s : State), (∀ a ∈ acts, ∀ t, P t → P (a t)) → P s → P (inAnyOrder n acts s)
  | 0, _, _, _, h => h
  | _ + 1, [], _, _, h => h
  | _ + 1, [a], _, ha, h => ha a (List.mem_singleton.2 rfl) _ h
  | n + 1, a :: b :: rest, s, ha, h => by
    unfold inAnyOrder
    refine inAnyOrder_keeps hd n _ _ (fun c hc => ha c (List.mem_of_mem_eraseIdx hc)) ?_
    have hlt : Config.choice s.draws % (a :: b :: rest).length < (a :: b :: rest).length := Nat.mod_lt _ (by simp)
    rw [List.getD_eq_getElem _ _ hlt]
    exact ha _ (List.getElem_mem hlt) _ (hd _ h)

/-- What one action of a list brings about and the others keep holds after the actions in any order. -/
theorem inAnyOrder_reaches {P Q : State → Prop} (hdP : ∀ s, P s → P s.drawn) (hdQ : ∀ s, Q s → Q s.drawn) :
    ∀ (n : Nat) (acts : List (State → State)) (s : State), acts.length ≤ n → (∀ a ∈ acts, ∀ t, P t → P (a t)) →
      (∀ a ∈ acts, ∀ t, Q t → Q (a t)) → (∃ a ∈ acts, ∀ t, P t → Q (a t)) → P s → Q (inAnyOrder n acts s)
  | 0, acts, _, hl, _, _, ⟨a, ha, _⟩, _ => by
    have : acts = [] := List.length_eq_zero_iff.1 (Nat.le_zero.1 hl)
    simp [this] at ha
  | _ + 1, [], _, _, _, _, ⟨_, ha, _⟩, _ => by simp at ha
  | _ + 1, [a], s, _, _, _, ⟨c, hc, hpq⟩, h => by
    rw [List.mem_singleton.1 hc] at hpq; exact hpq _ h
  | n + 1, a :: b :: rest, s, hl, hP, hQ, ⟨c, hc, hpq⟩, h => by
    unfold inAnyOrder
    have hlt : Config.choice s.draws % (a :: b :: rest).length < (a :: b :: rest).length := Nat.mod_lt _ (by simp)
    show Q (inAnyOrder n _ ((a :: b :: rest).getD _ id s.drawn))
    rw [List.getD_eq_getElem _ _ hlt]
    have hlen : ((a :: b :: rest).eraseIdx (Config.choice s.draws % (a :: b :: rest).length)).length ≤ n := by
      rw [List.length_eraseIdx_of_lt hlt]; simp at hl ⊢; omega
    obtain ⟨j, hj, rfl⟩ := List.mem_iff_getElem.1 hc
    by_cases e : j = Config.choice s.draws % (a :: b :: rest).length
    · refine inAnyOrder_keeps hdQ n _ _ (fun d hd => hQ d (List.mem_of_mem_eraseIdx hd)) ?_
      subst e
      exact hpq _ (hdP _ h)
    · refine inAnyOrder_reaches hdP hdQ n _ _ hlen (fun d hd => hP d (List.mem_of_mem_eraseIdx hd))
        (fun d hd => hQ d (List.mem_of_mem_eraseIdx hd)) ⟨_, ?_, hpq⟩ (hP _ (List.getElem_mem hlt) _ (hdP _ h))
      exact List.mem_eraseIdx_iff_getElem.2 ⟨j, hj, e, rfl⟩

/-- A field that every action and a draw leave alone, the actions in any order leave alone. -/
theorem inAnyOrder_field {α : Type} (g : State → α) (hd : ∀ s : State, g s.drawn = g s) (n : Nat)
    (acts : List (State → State)) (s : State) (ha : ∀ a ∈ acts, ∀ t, g (a t) = g t) : g (inAnyOrder n acts s) = g s :=
  inAnyOrder_keeps (P := fun t => g t = g s) (fun t ht => (hd t).trans ht) n acts s
    (fun a h t ht => (ha a h t).trans ht) rfl

/-- A field that both actions and a draw leave alone, two actions in either order leave alone. -/
theorem inEitherOrder_field {α : Type} (g : State → α) (hd : ∀ s : State, g s.drawn = g s) {f₁ f₂ : State → State}
    (h₁ : ∀ t, g (f₁ t) = g t) (h₂ : ∀ t, g (f₂ t) = g t) (s : State) : g (inEitherOrder f₁ f₂ s) = g s :=
  inEitherOrder_keeps (P := fun t => g t = g s) (fun t ht => (hd t).trans ht) (fun t ht => (h₁ t).trans ht)
    (fun t ht => (h₂ t).trans ht) rfl

variable (s : State)

/-! ## Fields left alone -/

@[simp] theorem State.arbitrate_pending : s.arbitrate.pending = s.pending := by
  unfold State.arbitrate; repeat' split
  all_goals rfl
@[simp] theorem State.arbitrate_draws : s.arbitrate.draws = s.draws := by
  unfold State.arbitrate; repeat' split
  all_goals rfl
@[simp] theorem State.arbitrate_intake : s.arbitrate.intake = s.intake := by
  unfold State.arbitrate; repeat' split
  all_goals rfl
@[simp] theorem State.arbitrate_sched : s.arbitrate.sched = s.sched := by
  unfold State.arbitrate; repeat' split
  all_goals rfl
@[simp] theorem State.arbitrate_split : s.arbitrate.split = s.split := by
  unfold State.arbitrate; repeat' split
  all_goals rfl
@[simp] theorem State.arbitrate_lim : s.arbitrate.lim = s.lim := by
  unfold State.arbitrate; repeat' split
  all_goals rfl
@[simp] theorem State.arbitrate_reg : s.arbitrate.reg = s.reg := by
  unfold State.arbitrate; repeat' split
  all_goals rfl
@[simp] theorem State.arbitrate_vib : s.arbitrate.vib = s.vib := by
  unfold State.arbitrate; repeat' split
  all_goals rfl
@[simp] theorem State.arbitrate_seq : s.arbitrate.seq = s.seq := by
  unfold State.arbitrate; repeat' split
  all_goals rfl
@[simp] theorem State.arbitrate_tru : s.arbitrate.tru = s.tru := by
  unfold State.arbitrate; repeat' split
  all_goals rfl
@[simp] theorem State.arbitrate_recorder : s.arbitrate.recorder = s.recorder := by
  unfold State.arbitrate; repeat' split
  all_goals rfl
@[simp] theorem State.arbitrate_rqh : s.arbitrate.rqh = s.rqh := by
  unfold State.arbitrate; repeat' split
  all_goals rfl
@[simp] theorem State.arbitrate_rpt : s.arbitrate.rpt = s.rpt := by
  unfold State.arbitrate; repeat' split
  all_goals rfl
@[simp] theorem State.forward_pending (f : RawFrame) : (s.forward f).pending = s.pending := by
  unfold State.forward; (repeat' split) <;> simp
@[simp] theorem State.forward_draws (f : RawFrame) : (s.forward f).draws = s.draws := by
  unfold State.forward; (repeat' split) <;> simp
@[simp] theorem State.forward_intake (f : RawFrame) : (s.forward f).intake = s.intake := by
  unfold State.forward; (repeat' split) <;> simp
@[simp] theorem State.forward_sched (f : RawFrame) : (s.forward f).sched = s.sched := by
  unfold State.forward; (repeat' split) <;> simp
@[simp] theorem State.forward_split (f : RawFrame) : (s.forward f).split = s.split := by
  unfold State.forward; (repeat' split) <;> simp
@[simp] theorem State.forward_lim (f : RawFrame) : (s.forward f).lim = s.lim := by
  unfold State.forward; (repeat' split) <;> simp
@[simp] theorem State.forward_reg (f : RawFrame) : (s.forward f).reg = s.reg := by
  unfold State.forward; (repeat' split) <;> simp
@[simp] theorem State.forward_vib (f : RawFrame) : (s.forward f).vib = s.vib := by
  unfold State.forward; (repeat' split) <;> simp
@[simp] theorem State.forward_seq (f : RawFrame) : (s.forward f).seq = s.seq := by
  unfold State.forward; (repeat' split) <;> simp
@[simp] theorem State.forward_tru (f : RawFrame) : (s.forward f).tru = s.tru := by
  unfold State.forward; (repeat' split) <;> simp
@[simp] theorem State.forward_recorder (f : RawFrame) : (s.forward f).recorder = s.recorder := by
  unfold State.forward; (repeat' split) <;> simp
@[simp] theorem State.forward_rqh (f : RawFrame) : (s.forward f).rqh = s.rqh := by
  unfold State.forward; (repeat' split) <;> simp
@[simp] theorem State.forward_rpt (f : RawFrame) : (s.forward f).rpt = s.rpt := by
  unfold State.forward; (repeat' split) <;> simp
@[simp] theorem State.joinPair_pending (f : RawFrame) : (s.joinPair f).pending = s.pending := by
  unfold State.joinPair; (repeat' split) <;> simp
@[simp] theorem State.joinPair_draws (f : RawFrame) : (s.joinPair f).draws = s.draws := by
  unfold State.joinPair; (repeat' split) <;> simp
@[simp] theorem State.joinPair_intake (f : RawFrame) : (s.joinPair f).intake = s.intake := by
  unfold State.joinPair; (repeat' split) <;> simp
@[simp] theorem State.joinPair_sched (f : RawFrame) : (s.joinPair f).sched = s.sched := by
  unfold State.joinPair; (repeat' split) <;> simp
@[simp] theorem State.joinPair_split (f : RawFrame) : (s.joinPair f).split = s.split := by
  unfold State.joinPair; (repeat' split) <;> simp
@[simp] theorem State.joinPair_lim (f : RawFrame) : (s.joinPair f).lim = s.lim := by
  unfold State.joinPair; (repeat' split) <;> simp
@[simp] theorem State.joinPair_reg (f : RawFrame) : (s.joinPair f).reg = s.reg := by
  unfold State.joinPair; (repeat' split) <;> simp
@[simp] theorem State.joinPair_vib (f : RawFrame) : (s.joinPair f).vib = s.vib := by
  unfold State.joinPair; (repeat' split) <;> simp
@[simp] theorem State.joinPair_seq (f : RawFrame) : (s.joinPair f).seq = s.seq := by
  unfold State.joinPair; (repeat' split) <;> simp
@[simp] theorem State.joinPair_tru (f : RawFrame) : (s.joinPair f).tru = s.tru := by
  unfold State.joinPair; (repeat' split) <;> simp
@[simp] theorem State.joinPair_recorder (f : RawFrame) : (s.joinPair f).recorder = s.recorder := by
  unfold State.joinPair; (repeat' split) <;> simp
@[simp] theorem State.joinPair_rqh (f : RawFrame) : (s.joinPair f).rqh = s.rqh := by
  unfold State.joinPair; (repeat' split) <;> simp
@[simp] theorem State.joinPair_rpt (f : RawFrame) : (s.joinPair f).rpt = s.rpt := by
  unfold State.joinPair; (repeat' split) <;> simp
@[simp] theorem State.joinQueue_pending (f : RawFrame) : (s.joinQueue f).pending = s.pending := by
  simp [State.joinQueue]
@[simp] theorem State.joinQueue_draws (f : RawFrame) : (s.joinQueue f).draws = s.draws := by
  simp [State.joinQueue]
@[simp] theorem State.joinQueue_intake (f : RawFrame) : (s.joinQueue f).intake = s.intake := by
  simp [State.joinQueue]
@[simp] theorem State.joinQueue_sched (f : RawFrame) : (s.joinQueue f).sched = s.sched := by
  simp [State.joinQueue]
@[simp] theorem State.joinQueue_split (f : RawFrame) : (s.joinQueue f).split = s.split := by
  simp [State.joinQueue]
@[simp] theorem State.joinQueue_lim (f : RawFrame) : (s.joinQueue f).lim = s.lim := by
  simp [State.joinQueue]
@[simp] theorem State.joinQueue_reg (f : RawFrame) : (s.joinQueue f).reg = s.reg := by
  simp [State.joinQueue]
@[simp] theorem State.joinQueue_vib (f : RawFrame) : (s.joinQueue f).vib = s.vib := by
  simp [State.joinQueue]
@[simp] theorem State.joinQueue_seq (f : RawFrame) : (s.joinQueue f).seq = s.seq := by
  simp [State.joinQueue]
@[simp] theorem State.joinQueue_tru (f : RawFrame) : (s.joinQueue f).tru = s.tru := by
  simp [State.joinQueue]
@[simp] theorem State.joinQueue_recorder (f : RawFrame) : (s.joinQueue f).recorder = s.recorder := by
  simp [State.joinQueue]
@[simp] theorem State.joinQueue_rqh (f : RawFrame) : (s.joinQueue f).rqh = s.rqh := by
  simp [State.joinQueue]
@[simp] theorem State.joinQueue_rpt (f : RawFrame) : (s.joinQueue f).rpt = s.rpt := by
  simp [State.joinQueue]
@[simp] theorem State.tookPlace_pending (p : Producer) : (s.tookPlace p).pending = s.pending := rfl
@[simp] theorem State.tookPlace_draws (p : Producer) : (s.tookPlace p).draws = s.draws := rfl
@[simp] theorem State.tookPlace_intake (p : Producer) : (s.tookPlace p).intake = s.intake := rfl
@[simp] theorem State.tookPlace_sched (p : Producer) : (s.tookPlace p).sched = s.sched := rfl
@[simp] theorem State.tookPlace_split (p : Producer) : (s.tookPlace p).split = s.split := rfl
@[simp] theorem State.tookPlace_lim (p : Producer) : (s.tookPlace p).lim = s.lim := rfl
@[simp] theorem State.tookPlace_reg (p : Producer) : (s.tookPlace p).reg = s.reg := rfl
@[simp] theorem State.tookPlace_vib (p : Producer) : (s.tookPlace p).vib = s.vib := rfl
@[simp] theorem State.tookPlace_seq (p : Producer) : (s.tookPlace p).seq = s.seq := rfl
@[simp] theorem State.tookPlace_tru (p : Producer) : (s.tookPlace p).tru = s.tru := rfl
@[simp] theorem State.tookPlace_recorder (p : Producer) : (s.tookPlace p).recorder = s.recorder := rfl
@[simp] theorem State.tookPlace_rqh (p : Producer) : (s.tookPlace p).rqh = s.rqh := rfl
@[simp] theorem State.tookPlace_rpt (p : Producer) : (s.tookPlace p).rpt = s.rpt := rfl
@[simp] theorem State.produceDrive_pending (m : Motor) (e : Bool) (u : Int) (field : Nat) : (s.produceDrive m e u field).pending = s.pending := by
  unfold State.produceDrive; (repeat' split) <;> simp
@[simp] theorem State.produceDrive_draws (m : Motor) (e : Bool) (u : Int) (field : Nat) : (s.produceDrive m e u field).draws = s.draws := by
  unfold State.produceDrive; (repeat' split) <;> simp
@[simp] theorem State.produceDrive_intake (m : Motor) (e : Bool) (u : Int) (field : Nat) : (s.produceDrive m e u field).intake = s.intake := by
  unfold State.produceDrive; (repeat' split) <;> simp
@[simp] theorem State.produceDrive_sched (m : Motor) (e : Bool) (u : Int) (field : Nat) : (s.produceDrive m e u field).sched = s.sched := by
  unfold State.produceDrive; (repeat' split) <;> simp
@[simp] theorem State.produceDrive_split (m : Motor) (e : Bool) (u : Int) (field : Nat) : (s.produceDrive m e u field).split = s.split := by
  unfold State.produceDrive; (repeat' split) <;> simp
@[simp] theorem State.produceDrive_lim (m : Motor) (e : Bool) (u : Int) (field : Nat) : (s.produceDrive m e u field).lim = s.lim := by
  unfold State.produceDrive; (repeat' split) <;> simp
@[simp] theorem State.produceDrive_reg (m : Motor) (e : Bool) (u : Int) (field : Nat) : (s.produceDrive m e u field).reg = s.reg := by
  unfold State.produceDrive; (repeat' split) <;> simp
@[simp] theorem State.produceDrive_vib (m : Motor) (e : Bool) (u : Int) (field : Nat) : (s.produceDrive m e u field).vib = s.vib := by
  unfold State.produceDrive; (repeat' split) <;> simp
@[simp] theorem State.produceDrive_seq (m : Motor) (e : Bool) (u : Int) (field : Nat) : (s.produceDrive m e u field).seq = s.seq := by
  unfold State.produceDrive; (repeat' split) <;> simp
@[simp] theorem State.produceDrive_tru (m : Motor) (e : Bool) (u : Int) (field : Nat) : (s.produceDrive m e u field).tru = s.tru := by
  unfold State.produceDrive; (repeat' split) <;> simp
@[simp] theorem State.produceDrive_recorder (m : Motor) (e : Bool) (u : Int) (field : Nat) : (s.produceDrive m e u field).recorder = s.recorder := by
  unfold State.produceDrive; (repeat' split) <;> simp
@[simp] theorem State.produceDrive_rqh (m : Motor) (e : Bool) (u : Int) (field : Nat) : (s.produceDrive m e u field).rqh = s.rqh := by
  unfold State.produceDrive; (repeat' split) <;> simp
@[simp] theorem State.produceDrive_rpt (m : Motor) (e : Bool) (u : Int) (field : Nat) : (s.produceDrive m e u field).rpt = s.rpt := by
  unfold State.produceDrive; (repeat' split) <;> simp
@[simp] theorem State.answerActivation_pending (r : ResultCode) : (s.answerActivation r).pending = s.pending := by
  unfold State.answerActivation; (repeat' split) <;> simp
@[simp] theorem State.answerActivation_draws (r : ResultCode) : (s.answerActivation r).draws = s.draws := by
  unfold State.answerActivation; (repeat' split) <;> simp
@[simp] theorem State.answerActivation_rp (r : ResultCode) : (s.answerActivation r).rp = s.rp := by
  unfold State.answerActivation; (repeat' split) <;> simp
@[simp] theorem State.answerActivation_intake (r : ResultCode) : (s.answerActivation r).intake = s.intake := by
  unfold State.answerActivation; (repeat' split) <;> simp
@[simp] theorem State.answerActivation_split (r : ResultCode) : (s.answerActivation r).split = s.split := by
  unfold State.answerActivation; (repeat' split) <;> simp
@[simp] theorem State.answerActivation_lim (r : ResultCode) : (s.answerActivation r).lim = s.lim := by
  unfold State.answerActivation; (repeat' split) <;> simp
@[simp] theorem State.answerActivation_reg (r : ResultCode) : (s.answerActivation r).reg = s.reg := by
  unfold State.answerActivation; (repeat' split) <;> simp
@[simp] theorem State.answerActivation_vib (r : ResultCode) : (s.answerActivation r).vib = s.vib := by
  unfold State.answerActivation; (repeat' split) <;> simp
@[simp] theorem State.answerActivation_seq (r : ResultCode) : (s.answerActivation r).seq = s.seq := by
  unfold State.answerActivation; (repeat' split) <;> simp
@[simp] theorem State.answerActivation_tru (r : ResultCode) : (s.answerActivation r).tru = s.tru := by
  unfold State.answerActivation; (repeat' split) <;> simp
@[simp] theorem State.answerActivation_recorder (r : ResultCode) : (s.answerActivation r).recorder = s.recorder := by
  unfold State.answerActivation; (repeat' split) <;> simp
@[simp] theorem State.answerActivation_rpt (r : ResultCode) : (s.answerActivation r).rpt = s.rpt := by
  unfold State.answerActivation; (repeat' split) <;> simp
@[simp] theorem State.abandonBreakaway_pending : s.abandonBreakaway.pending = s.pending := by
  unfold State.abandonBreakaway; (repeat' split) <;> simp
@[simp] theorem State.abandonBreakaway_draws : s.abandonBreakaway.draws = s.draws := by
  unfold State.abandonBreakaway; (repeat' split) <;> simp
@[simp] theorem State.abandonBreakaway_rp : s.abandonBreakaway.rp = s.rp := by
  unfold State.abandonBreakaway; (repeat' split) <;> simp
@[simp] theorem State.abandonBreakaway_intake : s.abandonBreakaway.intake = s.intake := by
  unfold State.abandonBreakaway; (repeat' split) <;> simp
@[simp] theorem State.abandonBreakaway_sched : s.abandonBreakaway.sched = s.sched := by
  unfold State.abandonBreakaway; (repeat' split) <;> simp
@[simp] theorem State.abandonBreakaway_split : s.abandonBreakaway.split = s.split := by
  unfold State.abandonBreakaway; (repeat' split) <;> simp
@[simp] theorem State.abandonBreakaway_reg : s.abandonBreakaway.reg = s.reg := by
  unfold State.abandonBreakaway; (repeat' split) <;> simp
@[simp] theorem State.abandonBreakaway_vib : s.abandonBreakaway.vib = s.vib := by
  unfold State.abandonBreakaway; (repeat' split) <;> simp
@[simp] theorem State.abandonBreakaway_seq : s.abandonBreakaway.seq = s.seq := by
  unfold State.abandonBreakaway; (repeat' split) <;> simp
@[simp] theorem State.abandonBreakaway_tru : s.abandonBreakaway.tru = s.tru := by
  unfold State.abandonBreakaway; (repeat' split) <;> simp
@[simp] theorem State.abandonBreakaway_recorder : s.abandonBreakaway.recorder = s.recorder := by
  unfold State.abandonBreakaway; (repeat' split) <;> simp
@[simp] theorem State.abandonBreakaway_rqh : s.abandonBreakaway.rqh = s.rqh := by
  unfold State.abandonBreakaway; (repeat' split) <;> simp
@[simp] theorem State.abandonBreakaway_rpt : s.abandonBreakaway.rpt = s.rpt := by
  unfold State.abandonBreakaway; (repeat' split) <;> simp
@[simp] theorem State.produceAux_pending (k : Nat) (p : List Word) : (s.produceAux k p).pending = s.pending := by
  unfold State.produceAux; (repeat' split) <;> simp
@[simp] theorem State.produceAux_draws (k : Nat) (p : List Word) : (s.produceAux k p).draws = s.draws := by
  unfold State.produceAux; (repeat' split) <;> simp
@[simp] theorem State.produceAux_rp (k : Nat) (p : List Word) : (s.produceAux k p).rp = s.rp := by
  unfold State.produceAux; (repeat' split) <;> simp
@[simp] theorem State.produceAux_intake (k : Nat) (p : List Word) : (s.produceAux k p).intake = s.intake := by
  unfold State.produceAux; (repeat' split) <;> simp
@[simp] theorem State.produceAux_sched (k : Nat) (p : List Word) : (s.produceAux k p).sched = s.sched := by
  unfold State.produceAux; (repeat' split) <;> simp
@[simp] theorem State.produceAux_split (k : Nat) (p : List Word) : (s.produceAux k p).split = s.split := by
  unfold State.produceAux; (repeat' split) <;> simp
@[simp] theorem State.produceAux_lim (k : Nat) (p : List Word) : (s.produceAux k p).lim = s.lim := by
  unfold State.produceAux; (repeat' split) <;> simp
@[simp] theorem State.produceAux_reg (k : Nat) (p : List Word) : (s.produceAux k p).reg = s.reg := by
  unfold State.produceAux; (repeat' split) <;> simp
@[simp] theorem State.produceAux_vib (k : Nat) (p : List Word) : (s.produceAux k p).vib = s.vib := by
  unfold State.produceAux; (repeat' split) <;> simp
@[simp] theorem State.produceAux_tru (k : Nat) (p : List Word) : (s.produceAux k p).tru = s.tru := by
  unfold State.produceAux; (repeat' split) <;> simp
@[simp] theorem State.produceAux_recorder (k : Nat) (p : List Word) : (s.produceAux k p).recorder = s.recorder := by
  unfold State.produceAux; (repeat' split) <;> simp
@[simp] theorem State.produceAux_rqh (k : Nat) (p : List Word) : (s.produceAux k p).rqh = s.rqh := by
  unfold State.produceAux; (repeat' split) <;> simp
@[simp] theorem State.produceAux_rpt (k : Nat) (p : List Word) : (s.produceAux k p).rpt = s.rpt := by
  unfold State.produceAux; (repeat' split) <;> simp
@[simp] theorem State.produceDecline_pending (n : Nat) : (s.produceDecline n).pending = s.pending := by
  simp [State.produceDecline]
@[simp] theorem State.produceDecline_draws (n : Nat) : (s.produceDecline n).draws = s.draws := by
  simp [State.produceDecline]
@[simp] theorem State.produceDecline_rp (n : Nat) : (s.produceDecline n).rp = s.rp := by
  simp [State.produceDecline]
@[simp] theorem State.produceDecline_intake (n : Nat) : (s.produceDecline n).intake = s.intake := by
  simp [State.produceDecline]
@[simp] theorem State.produceDecline_sched (n : Nat) : (s.produceDecline n).sched = s.sched := by
  simp [State.produceDecline]
@[simp] theorem State.produceDecline_split (n : Nat) : (s.produceDecline n).split = s.split := by
  simp [State.produceDecline]
@[simp] theorem State.produceDecline_lim (n : Nat) : (s.produceDecline n).lim = s.lim := by
  simp [State.produceDecline]
@[simp] theorem State.produceDecline_reg (n : Nat) : (s.produceDecline n).reg = s.reg := by
  simp [State.produceDecline]
@[simp] theorem State.produceDecline_vib (n : Nat) : (s.produceDecline n).vib = s.vib := by
  simp [State.produceDecline]
@[simp] theorem State.produceDecline_tru (n : Nat) : (s.produceDecline n).tru = s.tru := by
  simp [State.produceDecline]
@[simp] theorem State.produceDecline_recorder (n : Nat) : (s.produceDecline n).recorder = s.recorder := by
  simp [State.produceDecline]
@[simp] theorem State.produceDecline_rqh (n : Nat) : (s.produceDecline n).rqh = s.rqh := by
  simp [State.produceDecline]
@[simp] theorem State.produceDecline_rpt (n : Nat) : (s.produceDecline n).rpt = s.rpt := by
  simp [State.produceDecline]
@[simp] theorem State.produceHandover_pending : s.produceHandover.pending = s.pending := by
  simp [State.produceHandover]
@[simp] theorem State.produceHandover_draws : s.produceHandover.draws = s.draws := by
  simp [State.produceHandover]
@[simp] theorem State.produceHandover_rp : s.produceHandover.rp = s.rp := by
  simp [State.produceHandover]
@[simp] theorem State.produceHandover_intake : s.produceHandover.intake = s.intake := by
  simp [State.produceHandover]
@[simp] theorem State.produceHandover_sched : s.produceHandover.sched = s.sched := by
  simp [State.produceHandover]
@[simp] theorem State.produceHandover_split : s.produceHandover.split = s.split := by
  simp [State.produceHandover]
@[simp] theorem State.produceHandover_lim : s.produceHandover.lim = s.lim := by
  simp [State.produceHandover]
@[simp] theorem State.produceHandover_reg : s.produceHandover.reg = s.reg := by
  simp [State.produceHandover]
@[simp] theorem State.produceHandover_vib : s.produceHandover.vib = s.vib := by
  simp [State.produceHandover]
@[simp] theorem State.produceHandover_tru : s.produceHandover.tru = s.tru := by
  simp [State.produceHandover]
@[simp] theorem State.produceHandover_recorder : s.produceHandover.recorder = s.recorder := by
  simp [State.produceHandover]
@[simp] theorem State.produceHandover_rqh : s.produceHandover.rqh = s.rqh := by
  simp [State.produceHandover]
@[simp] theorem State.produceHandover_rpt : s.produceHandover.rpt = s.rpt := by
  simp [State.produceHandover]
@[simp] theorem State.produceRecall_pending : s.produceRecall.pending = s.pending := by
  simp [State.produceRecall]
@[simp] theorem State.produceRecall_draws : s.produceRecall.draws = s.draws := by
  simp [State.produceRecall]
@[simp] theorem State.produceRecall_rp : s.produceRecall.rp = s.rp := by
  simp [State.produceRecall]
@[simp] theorem State.produceRecall_intake : s.produceRecall.intake = s.intake := by
  simp [State.produceRecall]
@[simp] theorem State.produceRecall_sched : s.produceRecall.sched = s.sched := by
  simp [State.produceRecall]
@[simp] theorem State.produceRecall_split : s.produceRecall.split = s.split := by
  simp [State.produceRecall]
@[simp] theorem State.produceRecall_lim : s.produceRecall.lim = s.lim := by
  simp [State.produceRecall]
@[simp] theorem State.produceRecall_reg : s.produceRecall.reg = s.reg := by
  simp [State.produceRecall]
@[simp] theorem State.produceRecall_vib : s.produceRecall.vib = s.vib := by
  simp [State.produceRecall]
@[simp] theorem State.produceRecall_tru : s.produceRecall.tru = s.tru := by
  simp [State.produceRecall]
@[simp] theorem State.produceRecall_recorder : s.produceRecall.recorder = s.recorder := by
  simp [State.produceRecall]
@[simp] theorem State.produceRecall_rqh : s.produceRecall.rqh = s.rqh := by
  simp [State.produceRecall]
@[simp] theorem State.produceRecall_rpt : s.produceRecall.rpt = s.rpt := by
  simp [State.produceRecall]

/-! ### Both motors' block frames, and the change out of the running states (R87, R88) -/

@[simp] theorem State.produceBlocks_pending : s.produceBlocks.pending = s.pending := by
  unfold State.produceBlocks; split
  · rfl
  · exact inEitherOrder_field (·.pending) (fun _ => rfl) (fun _ => by simp) (fun _ => by simp) s
@[simp] theorem State.produceBlocks_intake : s.produceBlocks.intake = s.intake := by
  unfold State.produceBlocks; split
  · rfl
  · exact inEitherOrder_field (·.intake) (fun _ => rfl) (fun _ => by simp) (fun _ => by simp) s
@[simp] theorem State.produceBlocks_sched : s.produceBlocks.sched = s.sched := by
  unfold State.produceBlocks; split
  · rfl
  · exact inEitherOrder_field (·.sched) (fun _ => rfl) (fun _ => by simp) (fun _ => by simp) s
@[simp] theorem State.produceBlocks_split : s.produceBlocks.split = s.split := by
  unfold State.produceBlocks; split
  · rfl
  · exact inEitherOrder_field (·.split) (fun _ => rfl) (fun _ => by simp) (fun _ => by simp) s
@[simp] theorem State.produceBlocks_lim : s.produceBlocks.lim = s.lim := by
  unfold State.produceBlocks; split
  · rfl
  · exact inEitherOrder_field (·.lim) (fun _ => rfl) (fun _ => by simp) (fun _ => by simp) s
@[simp] theorem State.produceBlocks_reg : s.produceBlocks.reg = s.reg := by
  unfold State.produceBlocks; split
  · rfl
  · exact inEitherOrder_field (·.reg) (fun _ => rfl) (fun _ => by simp) (fun _ => by simp) s
@[simp] theorem State.produceBlocks_vib : s.produceBlocks.vib = s.vib := by
  unfold State.produceBlocks; split
  · rfl
  · exact inEitherOrder_field (·.vib) (fun _ => rfl) (fun _ => by simp) (fun _ => by simp) s
@[simp] theorem State.produceBlocks_seq : s.produceBlocks.seq = s.seq := by
  unfold State.produceBlocks; split
  · rfl
  · exact inEitherOrder_field (·.seq) (fun _ => rfl) (fun _ => by simp) (fun _ => by simp) s
@[simp] theorem State.produceBlocks_tru : s.produceBlocks.tru = s.tru := by
  unfold State.produceBlocks; split
  · rfl
  · exact inEitherOrder_field (·.tru) (fun _ => rfl) (fun _ => by simp) (fun _ => by simp) s
@[simp] theorem State.produceBlocks_recorder : s.produceBlocks.recorder = s.recorder := by
  unfold State.produceBlocks; split
  · rfl
  · exact inEitherOrder_field (·.recorder) (fun _ => rfl) (fun _ => by simp) (fun _ => by simp) s
@[simp] theorem State.produceBlocks_rqh : s.produceBlocks.rqh = s.rqh := by
  unfold State.produceBlocks; split
  · rfl
  · exact inEitherOrder_field (·.rqh) (fun _ => rfl) (fun _ => by simp) (fun _ => by simp) s
@[simp] theorem State.produceBlocks_rpt : s.produceBlocks.rpt = s.rpt := by
  unfold State.produceBlocks; split
  · rfl
  · exact inEitherOrder_field (·.rpt) (fun _ => rfl) (fun _ => by simp) (fun _ => by simp) s
@[simp] theorem State.leaveRunning_pending : s.leaveRunning.pending = s.pending := by
  simp [State.leaveRunning]
@[simp] theorem State.leaveRunning_intake : s.leaveRunning.intake = s.intake := by
  simp [State.leaveRunning]
@[simp] theorem State.leaveRunning_sched : s.leaveRunning.sched = s.sched := by
  simp [State.leaveRunning]
@[simp] theorem State.leaveRunning_split : s.leaveRunning.split = s.split := by
  simp [State.leaveRunning]
@[simp] theorem State.leaveRunning_lim : s.leaveRunning.lim = s.lim := by
  simp [State.leaveRunning]
@[simp] theorem State.leaveRunning_vib : s.leaveRunning.vib = s.vib := by
  simp [State.leaveRunning]
@[simp] theorem State.leaveRunning_seq : s.leaveRunning.seq = s.seq := by
  simp [State.leaveRunning]
@[simp] theorem State.leaveRunning_tru : s.leaveRunning.tru = s.tru := by
  simp [State.leaveRunning]
@[simp] theorem State.leaveRunning_recorder : s.leaveRunning.recorder = s.recorder := by
  simp [State.leaveRunning]
@[simp] theorem State.leaveRunning_rqh : s.leaveRunning.rqh = s.rqh := by
  simp [State.leaveRunning]
@[simp] theorem State.leaveRunning_rpt : s.leaveRunning.rpt = s.rpt := by
  simp [State.leaveRunning]

/-- Several raises leave every block but the Reporter alone. -/
theorem State.raiseAll_eq (xs : List Raise) : s.raiseAll xs = { s with rpt := (s.raiseAll xs).rpt } := by
  induction xs generalizing s with
  | nil => rfl
  | cons x xs ih => simp only [State.raiseAll, List.foldl_cons] at ih ⊢; rw [ih]; rfl

@[simp] theorem State.raiseAll_pending (xs : List Raise) : (s.raiseAll xs).pending = s.pending := by rw [State.raiseAll_eq]
@[simp] theorem State.raiseAll_draws (xs : List Raise) : (s.raiseAll xs).draws = s.draws := by rw [State.raiseAll_eq]
@[simp] theorem State.raiseAll_rp (xs : List Raise) : (s.raiseAll xs).rp = s.rp := by rw [State.raiseAll_eq]
@[simp] theorem State.raiseAll_intake (xs : List Raise) : (s.raiseAll xs).intake = s.intake := by rw [State.raiseAll_eq]
@[simp] theorem State.raiseAll_sched (xs : List Raise) : (s.raiseAll xs).sched = s.sched := by rw [State.raiseAll_eq]
@[simp] theorem State.raiseAll_split (xs : List Raise) : (s.raiseAll xs).split = s.split := by rw [State.raiseAll_eq]
@[simp] theorem State.raiseAll_lim (xs : List Raise) : (s.raiseAll xs).lim = s.lim := by rw [State.raiseAll_eq]
@[simp] theorem State.raiseAll_reg (xs : List Raise) : (s.raiseAll xs).reg = s.reg := by rw [State.raiseAll_eq]
@[simp] theorem State.raiseAll_vib (xs : List Raise) : (s.raiseAll xs).vib = s.vib := by rw [State.raiseAll_eq]
@[simp] theorem State.raiseAll_seq (xs : List Raise) : (s.raiseAll xs).seq = s.seq := by rw [State.raiseAll_eq]
@[simp] theorem State.raiseAll_tru (xs : List Raise) : (s.raiseAll xs).tru = s.tru := by rw [State.raiseAll_eq]
@[simp] theorem State.raiseAll_recorder (xs : List Raise) : (s.raiseAll xs).recorder = s.recorder := by rw [State.raiseAll_eq]
@[simp] theorem State.raiseAll_rqh (xs : List Raise) : (s.raiseAll xs).rqh = s.rqh := by rw [State.raiseAll_eq]

/-! ## What the frame producers keep of the sequencer -/

@[simp] theorem State.produceAux_drive (k : Nat) (p : List Word) : (s.produceAux k p).seq.drive = s.seq.drive := by
  unfold State.produceAux; split <;> rfl

@[simp] theorem State.produceAux_grant (k : Nat) (p : List Word) : (s.produceAux k p).seq.grant = s.seq.grant := by
  unfold State.produceAux; split <;> rfl

@[simp] theorem State.produceAux_pendingTakeover (k : Nat) (p : List Word) :
    (s.produceAux k p).seq.pendingTakeover = s.seq.pendingTakeover := by
  unfold State.produceAux; split <;> rfl

@[simp] theorem State.answerActivation_active (r : ResultCode) :
    (s.answerActivation r).sched.active = s.sched.active := by
  unfold State.answerActivation; split <;> rfl

@[simp] theorem State.answerActivation_activation (r : ResultCode) : (s.answerActivation r).sched.activation = none := by
  unfold State.answerActivation
  split
  · assumption
  · rfl

@[simp] theorem State.abandonBreakaway_breakaway : s.abandonBreakaway.lim.breakaway = none := by
  unfold State.abandonBreakaway
  split
  · assumption
  · rfl

/-! ## Places kept -/

/-- R6: the pair never grows beyond two. -/
theorem joinedPair_length (f : RawFrame) {pair : List RawFrame} (h : pair.length ≤ 2) :
    (joinedPair f pair).1.length ≤ 2 := by
  unfold joinedPair
  split
  · simpa using h
  · split
    · simp; omega
    · simp; omega

/-- R6: the frame that joins is in the pair. -/
theorem mem_joinedPair (f : RawFrame) (pair : List RawFrame) : f ∈ (joinedPair f pair).1 := by
  unfold joinedPair
  split
  · rename_i h
    obtain ⟨g, hg, he⟩ := List.any_eq_true.1 h
    exact List.mem_map.2 ⟨g, hg, if_pos he⟩
  · split <;> simp

/-- R5: a choice of the arbiter leaves the counts alone and takes no frame out of a store but the one it starts. -/
theorem State.arbitrate_places :
    s.arbitrate.rp.buffer.length ≤ s.rp.buffer.length ∧ s.arbitrate.rp.pair.length ≤ s.rp.pair.length ∧
      s.arbitrate.rp.queue = s.rp.queue := by
  unfold State.arbitrate
  split
  · split
    · rename_i h; simp [h]
    · split
      · rename_i h; simp [h]
      · split <;> simp
  · simp

@[simp] theorem State.arbitrate_strap : s.arbitrate.rp.strap = s.rp.strap := by
  unfold State.arbitrate; repeat' split
  all_goals rfl

@[simp] theorem State.joinPair_strap (f : RawFrame) : (s.joinPair f).rp.strap = s.rp.strap := by
  unfold State.joinPair; split <;> simp

@[simp] theorem State.forward_strap (f : RawFrame) : (s.forward f).rp.strap = s.rp.strap := by
  unfold State.forward; split <;> simp

@[simp] theorem State.produceDrive_strap (m : Motor) (e : Bool) (u : Int) (field : Nat) :
    (s.produceDrive m e u field).rp.strap = s.rp.strap := by
  unfold State.produceDrive; split <;> simp

@[simp] theorem State.produceBlocks_strap : s.produceBlocks.rp.strap = s.rp.strap := by
  unfold State.produceBlocks; split
  · rfl
  · exact inEitherOrder_field (·.rp.strap) (fun _ => rfl) (fun _ => by simp) (fun _ => by simp) s

@[simp] theorem State.leaveRunning_strap : s.leaveRunning.rp.strap = s.rp.strap := by simp [State.leaveRunning]

/-- R187: the notice queue never grows beyond 32. -/
theorem Reporter.append_length (r : Reporter) (e : Notice) (reload : FlushTimer) (h : r.notices.length ≤ 32) :
    (r.append e reload).notices.length ≤ 32 := by
  unfold Reporter.append
  split
  · simp; omega
  · exact h

/-! ## Free places (R7) -/

/-- R7: a fall of a place has a producer that is still ready and still owed exactly where it owes. -/
theorem State.any_owed_iff (ws : List Waiter) : (s.stillReady ws).any (·.owed) = true ↔ s.owes ws := by
  simp [State.stillReady, State.owes, and_comm]

/-- R7: by the falls `W`, oldest first, a ready producer is passed over exactly where the earliest that owes does not name it. -/
theorem State.front_iff {p : Producer} (hp : s.producerReady p = true) (W : List (List Waiter)) :
    let front := (((W.map s.stillReady).find? fun ws => ws.any (·.owed)).getD []).map (·.producer)
    (front.isEmpty = true ∨ front.contains p = true) ↔
      ¬ ∃ (l : List (List Waiter)) (ws : List Waiter) (r : List (List Waiter)), W = l ++ ws :: r ∧
        (∀ x ∈ l, ¬ s.owes x) ∧ s.owes ws ∧ ∀ w ∈ ws, w.producer ≠ p := by
  intro front
  induction W with
  | nil => simp [front]
  | cons a W ih =>
    by_cases h : s.owes a
    · have hf : front = (s.stillReady a).map (·.producer) := by
        simp only [front, List.map_cons, List.find?_cons, (s.any_owed_iff a).2 h, Option.getD_some]
      have hne : front.isEmpty = false := by
        obtain ⟨w, hw, _, h3⟩ := h
        rw [hf, List.isEmpty_eq_false_iff_exists_mem]
        exact ⟨w.producer, List.mem_map.2 ⟨w, List.mem_filter.2 ⟨hw, h3⟩, rfl⟩⟩
      have hmem : front.contains p = true ↔ ∃ w ∈ a, w.producer = p := by
        rw [hf, List.contains_iff_mem]
        simp only [State.stillReady, List.mem_map, List.mem_filter]
        exact ⟨fun ⟨w, hw, he⟩ => ⟨w, hw.1, he⟩, fun ⟨w, hw, he⟩ => ⟨w, ⟨hw, he ▸ hp⟩, he⟩⟩
      rw [hne, hmem]
      simp only [Bool.false_eq_true, false_or]
      refine ⟨?_, fun h1 => ?_⟩
      · rintro ⟨w, hw, rfl⟩ ⟨l, ws, r, he, hl, _, hn⟩
        cases l with
        | nil => exact hn w ((List.cons.inj he).1 ▸ hw) rfl
        | cons x l => exact hl x (by simp) ((List.cons.inj he).1 ▸ h)
      · by_contra h2
        exact h1 ⟨[], a, W, rfl, by simp, h, fun w hw he => h2 ⟨w, hw, he⟩⟩
    · have h0 : (s.stillReady a).any (·.owed) = false := by rw [← Bool.not_eq_true, s.any_owed_iff]; exact h
      have hf : front = (((W.map s.stillReady).find? fun ws => ws.any (·.owed)).getD []).map (·.producer) := by
        simp only [front, List.map_cons, List.find?_cons, h0]
      rw [hf]
      refine ih.trans (not_congr ⟨?_, ?_⟩)
      · rintro ⟨l, ws, r, he, hl, h3⟩
        exact ⟨a :: l, ws, r, by simp [he], fun x hx => (List.mem_cons.1 hx).elim (· ▸ h) (hl x), h3⟩
      · rintro ⟨l, ws, r, he, hl, h3, h4⟩
        cases l with
        | nil => exact absurd ((List.cons.inj he).1 ▸ h3) h
        | cons x l => exact ⟨l, ws, r, (List.cons.inj he).2, fun y hy => hl y (by simp [hy]), h3, h4⟩

/-- R7: a producer takes a place where one is free, it is ready, and no producer owed one before it is passed over. -/
theorem State.mayTake_iff (p : Producer) :
    s.mayTake p = true ↔ s.placeFree = true ∧ s.producerReady p = true ∧ ¬ s.mustWait p := by
  by_cases hp : s.producerReady p = true
  · simp only [State.mayTake, State.frontWaiters, Bool.and_eq_true, Bool.or_eq_true, hp, and_true, true_and]
    exact and_congr_right fun _ => s.front_iff hp s.rp.waiters
  · simp [State.mayTake, hp]

end Sys2Proof.Machine
end

