-- ==== Sys2Proof/Laws/Trips.lean ====
section
/-! SUPPORT. What a raise of a cause can do (R142), and the fields it leaves alone. -/

namespace Sys2Proof.Machine

variable (s : State)

/-! ## Parts of a declaration -/

@[simp] theorem State.declinePending_pending (n : Nat) : (s.declinePending n).pending = s.pending := by
  unfold State.declinePending; split <;> simp
@[simp] theorem State.declinePending_draws (n : Nat) : (s.declinePending n).draws = s.draws := by
  unfold State.declinePending; split <;> simp
@[simp] theorem State.declinePending_rp (n : Nat) : (s.declinePending n).rp = s.rp := by
  unfold State.declinePending; split <;> simp
@[simp] theorem State.declinePending_intake (n : Nat) : (s.declinePending n).intake = s.intake := by
  unfold State.declinePending; split <;> simp
@[simp] theorem State.declinePending_sched (n : Nat) : (s.declinePending n).sched = s.sched := by
  unfold State.declinePending; split <;> simp
@[simp] theorem State.declinePending_split (n : Nat) : (s.declinePending n).split = s.split := by
  unfold State.declinePending; split <;> simp
@[simp] theorem State.declinePending_lim (n : Nat) : (s.declinePending n).lim = s.lim := by
  unfold State.declinePending; split <;> simp
@[simp] theorem State.declinePending_reg (n : Nat) : (s.declinePending n).reg = s.reg := by
  unfold State.declinePending; split <;> simp
@[simp] theorem State.declinePending_vib (n : Nat) : (s.declinePending n).vib = s.vib := by
  unfold State.declinePending; split <;> simp
@[simp] theorem State.declinePending_tru (n : Nat) : (s.declinePending n).tru = s.tru := by
  unfold State.declinePending; split <;> simp
@[simp] theorem State.declinePending_recorder (n : Nat) : (s.declinePending n).recorder = s.recorder := by
  unfold State.declinePending; split <;> simp
@[simp] theorem State.declinePending_rqh (n : Nat) : (s.declinePending n).rqh = s.rqh := by
  unfold State.declinePending; split <;> simp
@[simp] theorem State.declinePending_rpt (n : Nat) : (s.declinePending n).rpt = s.rpt := by
  unfold State.declinePending; split <;> simp
@[simp] theorem State.enterTripped_pending : s.enterTripped.pending = s.pending := by
  simp [State.enterTripped]
@[simp] theorem State.enterTripped_draws : s.enterTripped.draws = s.draws := by
  simp [State.enterTripped]
@[simp] theorem State.enterTripped_rp : s.enterTripped.rp = s.rp := by
  simp [State.enterTripped]
@[simp] theorem State.enterTripped_intake : s.enterTripped.intake = s.intake := by
  simp [State.enterTripped]
@[simp] theorem State.enterTripped_sched : s.enterTripped.sched = s.sched := by
  simp [State.enterTripped]
@[simp] theorem State.enterTripped_split : s.enterTripped.split = s.split := by
  simp [State.enterTripped]
@[simp] theorem State.enterTripped_lim : s.enterTripped.lim = s.lim := by
  simp [State.enterTripped]
@[simp] theorem State.enterTripped_reg : s.enterTripped.reg = s.reg := by
  simp [State.enterTripped]
@[simp] theorem State.enterTripped_vib : s.enterTripped.vib = s.vib := by
  simp [State.enterTripped]
@[simp] theorem State.enterTripped_tru : s.enterTripped.tru = s.tru := by
  simp [State.enterTripped]
@[simp] theorem State.enterTripped_recorder : s.enterTripped.recorder = s.recorder := by
  simp [State.enterTripped]
@[simp] theorem State.enterTripped_rqh : s.enterTripped.rqh = s.rqh := by
  simp [State.enterTripped]
@[simp] theorem State.enterTripped_rpt : s.enterTripped.rpt = s.rpt := by
  simp [State.enterTripped]
@[simp] theorem State.reportCause_pending (r : CauseRecord) : (s.reportCause r).pending = s.pending := by
  simp [State.reportCause]
@[simp] theorem State.reportCause_draws (r : CauseRecord) : (s.reportCause r).draws = s.draws := by
  simp [State.reportCause]
@[simp] theorem State.reportCause_rp (r : CauseRecord) : (s.reportCause r).rp = s.rp := by
  simp [State.reportCause]
@[simp] theorem State.reportCause_intake (r : CauseRecord) : (s.reportCause r).intake = s.intake := by
  simp [State.reportCause]
@[simp] theorem State.reportCause_sched (r : CauseRecord) : (s.reportCause r).sched = s.sched := by
  simp [State.reportCause]
@[simp] theorem State.reportCause_split (r : CauseRecord) : (s.reportCause r).split = s.split := by
  simp [State.reportCause]
@[simp] theorem State.reportCause_lim (r : CauseRecord) : (s.reportCause r).lim = s.lim := by
  simp [State.reportCause]
@[simp] theorem State.reportCause_reg (r : CauseRecord) : (s.reportCause r).reg = s.reg := by
  simp [State.reportCause]
@[simp] theorem State.reportCause_vib (r : CauseRecord) : (s.reportCause r).vib = s.vib := by
  simp [State.reportCause]
@[simp] theorem State.reportCause_seq (r : CauseRecord) : (s.reportCause r).seq = s.seq := by
  simp [State.reportCause]
@[simp] theorem State.reportCause_tru (r : CauseRecord) : (s.reportCause r).tru = s.tru := by
  simp [State.reportCause]
@[simp] theorem State.reportCause_recorder (r : CauseRecord) : (s.reportCause r).recorder = s.recorder := by
  simp [State.reportCause]
@[simp] theorem State.reportCause_rqh (r : CauseRecord) : (s.reportCause r).rqh = s.rqh := by
  simp [State.reportCause]
@[simp] theorem State.updateTripHeader_pending (g : Header → Header) : (s.updateTripHeader g).pending = s.pending := by
  unfold State.updateTripHeader; (repeat' split) <;> rfl
@[simp] theorem State.updateTripHeader_draws (g : Header → Header) : (s.updateTripHeader g).draws = s.draws := by
  unfold State.updateTripHeader; (repeat' split) <;> rfl
@[simp] theorem State.updateTripHeader_rp (g : Header → Header) : (s.updateTripHeader g).rp = s.rp := by
  unfold State.updateTripHeader; (repeat' split) <;> rfl
@[simp] theorem State.updateTripHeader_intake (g : Header → Header) : (s.updateTripHeader g).intake = s.intake := by
  unfold State.updateTripHeader; (repeat' split) <;> rfl
@[simp] theorem State.updateTripHeader_sched (g : Header → Header) : (s.updateTripHeader g).sched = s.sched := by
  unfold State.updateTripHeader; (repeat' split) <;> rfl
@[simp] theorem State.updateTripHeader_split (g : Header → Header) : (s.updateTripHeader g).split = s.split := by
  unfold State.updateTripHeader; (repeat' split) <;> rfl
@[simp] theorem State.updateTripHeader_lim (g : Header → Header) : (s.updateTripHeader g).lim = s.lim := by
  unfold State.updateTripHeader; (repeat' split) <;> rfl
@[simp] theorem State.updateTripHeader_reg (g : Header → Header) : (s.updateTripHeader g).reg = s.reg := by
  unfold State.updateTripHeader; (repeat' split) <;> rfl
@[simp] theorem State.updateTripHeader_vib (g : Header → Header) : (s.updateTripHeader g).vib = s.vib := by
  unfold State.updateTripHeader; (repeat' split) <;> rfl
@[simp] theorem State.updateTripHeader_seq (g : Header → Header) : (s.updateTripHeader g).seq = s.seq := by
  unfold State.updateTripHeader; (repeat' split) <;> rfl
@[simp] theorem State.updateTripHeader_tru (g : Header → Header) : (s.updateTripHeader g).tru = s.tru := by
  unfold State.updateTripHeader; (repeat' split) <;> rfl
@[simp] theorem State.updateTripHeader_rqh (g : Header → Header) : (s.updateTripHeader g).rqh = s.rqh := by
  unfold State.updateTripHeader; (repeat' split) <;> rfl
@[simp] theorem State.updateTripHeader_rpt (g : Header → Header) : (s.updateTripHeader g).rpt = s.rpt := by
  unfold State.updateTripHeader; (repeat' split) <;> rfl
@[simp] theorem State.recordLater_pending (c : Cause) (n : Nat) : (s.recordLater c n).pending = s.pending := by
  simp [State.recordLater]
@[simp] theorem State.recordLater_draws (c : Cause) (n : Nat) : (s.recordLater c n).draws = s.draws := by
  simp [State.recordLater]
@[simp] theorem State.recordLater_rp (c : Cause) (n : Nat) : (s.recordLater c n).rp = s.rp := by
  simp [State.recordLater]
@[simp] theorem State.recordLater_intake (c : Cause) (n : Nat) : (s.recordLater c n).intake = s.intake := by
  simp [State.recordLater]
@[simp] theorem State.recordLater_sched (c : Cause) (n : Nat) : (s.recordLater c n).sched = s.sched := by
  simp [State.recordLater]
@[simp] theorem State.recordLater_split (c : Cause) (n : Nat) : (s.recordLater c n).split = s.split := by
  simp [State.recordLater]
@[simp] theorem State.recordLater_lim (c : Cause) (n : Nat) : (s.recordLater c n).lim = s.lim := by
  simp [State.recordLater]
@[simp] theorem State.recordLater_reg (c : Cause) (n : Nat) : (s.recordLater c n).reg = s.reg := by
  simp [State.recordLater]
@[simp] theorem State.recordLater_vib (c : Cause) (n : Nat) : (s.recordLater c n).vib = s.vib := by
  simp [State.recordLater]
@[simp] theorem State.recordLater_seq (c : Cause) (n : Nat) : (s.recordLater c n).seq = s.seq := by
  simp [State.recordLater]
@[simp] theorem State.recordLater_tru (c : Cause) (n : Nat) : (s.recordLater c n).tru = s.tru := by
  simp [State.recordLater]
@[simp] theorem State.recordLater_rqh (c : Cause) (n : Nat) : (s.recordLater c n).rqh = s.rqh := by
  simp [State.recordLater]
@[simp] theorem State.recordLater_rpt (c : Cause) (n : Nat) : (s.recordLater c n).rpt = s.rpt := by
  simp [State.recordLater]
@[simp] theorem State.recordDropped_pending (n : Nat) : (s.recordDropped n).pending = s.pending := by
  simp [State.recordDropped]
@[simp] theorem State.recordDropped_draws (n : Nat) : (s.recordDropped n).draws = s.draws := by
  simp [State.recordDropped]
@[simp] theorem State.recordDropped_rp (n : Nat) : (s.recordDropped n).rp = s.rp := by
  simp [State.recordDropped]
@[simp] theorem State.recordDropped_intake (n : Nat) : (s.recordDropped n).intake = s.intake := by
  simp [State.recordDropped]
@[simp] theorem State.recordDropped_sched (n : Nat) : (s.recordDropped n).sched = s.sched := by
  simp [State.recordDropped]
@[simp] theorem State.recordDropped_split (n : Nat) : (s.recordDropped n).split = s.split := by
  simp [State.recordDropped]
@[simp] theorem State.recordDropped_lim (n : Nat) : (s.recordDropped n).lim = s.lim := by
  simp [State.recordDropped]
@[simp] theorem State.recordDropped_reg (n : Nat) : (s.recordDropped n).reg = s.reg := by
  simp [State.recordDropped]
@[simp] theorem State.recordDropped_vib (n : Nat) : (s.recordDropped n).vib = s.vib := by
  simp [State.recordDropped]
@[simp] theorem State.recordDropped_seq (n : Nat) : (s.recordDropped n).seq = s.seq := by
  simp [State.recordDropped]
@[simp] theorem State.recordDropped_tru (n : Nat) : (s.recordDropped n).tru = s.tru := by
  simp [State.recordDropped]
@[simp] theorem State.recordDropped_rqh (n : Nat) : (s.recordDropped n).rqh = s.rqh := by
  simp [State.recordDropped]
@[simp] theorem State.recordDropped_rpt (n : Nat) : (s.recordDropped n).rpt = s.rpt := by
  simp [State.recordDropped]
@[simp] theorem State.truncateCapture_pending : s.truncateCapture.pending = s.pending := by
  unfold State.truncateCapture; split <;> simp
@[simp] theorem State.truncateCapture_draws : s.truncateCapture.draws = s.draws := by
  unfold State.truncateCapture; split <;> simp
@[simp] theorem State.truncateCapture_rp : s.truncateCapture.rp = s.rp := by
  unfold State.truncateCapture; split <;> simp
@[simp] theorem State.truncateCapture_intake : s.truncateCapture.intake = s.intake := by
  unfold State.truncateCapture; split <;> simp
@[simp] theorem State.truncateCapture_sched : s.truncateCapture.sched = s.sched := by
  unfold State.truncateCapture; split <;> simp
@[simp] theorem State.truncateCapture_split : s.truncateCapture.split = s.split := by
  unfold State.truncateCapture; split <;> simp
@[simp] theorem State.truncateCapture_lim : s.truncateCapture.lim = s.lim := by
  unfold State.truncateCapture; split <;> simp
@[simp] theorem State.truncateCapture_reg : s.truncateCapture.reg = s.reg := by
  unfold State.truncateCapture; split <;> simp
@[simp] theorem State.truncateCapture_vib : s.truncateCapture.vib = s.vib := by
  unfold State.truncateCapture; split <;> simp
@[simp] theorem State.truncateCapture_seq : s.truncateCapture.seq = s.seq := by
  unfold State.truncateCapture; split <;> simp
@[simp] theorem State.truncateCapture_tru : s.truncateCapture.tru = s.tru := by
  unfold State.truncateCapture; split <;> simp
@[simp] theorem State.truncateCapture_rqh : s.truncateCapture.rqh = s.rqh := by
  unfold State.truncateCapture; split <;> simp
@[simp] theorem State.cycleLostTruncates_pending (c : Cause) : (s.cycleLostTruncates c).pending = s.pending := by
  unfold State.cycleLostTruncates; split <;> simp
@[simp] theorem State.cycleLostTruncates_draws (c : Cause) : (s.cycleLostTruncates c).draws = s.draws := by
  unfold State.cycleLostTruncates; split <;> simp
@[simp] theorem State.cycleLostTruncates_rp (c : Cause) : (s.cycleLostTruncates c).rp = s.rp := by
  unfold State.cycleLostTruncates; split <;> simp
@[simp] theorem State.cycleLostTruncates_intake (c : Cause) : (s.cycleLostTruncates c).intake = s.intake := by
  unfold State.cycleLostTruncates; split <;> simp
@[simp] theorem State.cycleLostTruncates_sched (c : Cause) : (s.cycleLostTruncates c).sched = s.sched := by
  unfold State.cycleLostTruncates; split <;> simp
@[simp] theorem State.cycleLostTruncates_split (c : Cause) : (s.cycleLostTruncates c).split = s.split := by
  unfold State.cycleLostTruncates; split <;> simp
@[simp] theorem State.cycleLostTruncates_lim (c : Cause) : (s.cycleLostTruncates c).lim = s.lim := by
  unfold State.cycleLostTruncates; split <;> simp
@[simp] theorem State.cycleLostTruncates_reg (c : Cause) : (s.cycleLostTruncates c).reg = s.reg := by
  unfold State.cycleLostTruncates; split <;> simp
@[simp] theorem State.cycleLostTruncates_vib (c : Cause) : (s.cycleLostTruncates c).vib = s.vib := by
  unfold State.cycleLostTruncates; split <;> simp
@[simp] theorem State.cycleLostTruncates_seq (c : Cause) : (s.cycleLostTruncates c).seq = s.seq := by
  unfold State.cycleLostTruncates; split <;> simp
@[simp] theorem State.cycleLostTruncates_tru (c : Cause) : (s.cycleLostTruncates c).tru = s.tru := by
  unfold State.cycleLostTruncates; split <;> simp
@[simp] theorem State.cycleLostTruncates_rqh (c : Cause) : (s.cycleLostTruncates c).rqh = s.rqh := by
  unfold State.cycleLostTruncates; split <;> simp

@[simp] theorem State.declinePending_drive (n : Nat) : (s.declinePending n).seq.drive = s.seq.drive := by
  unfold State.declinePending; split <;> simp [State.produceDecline]

@[simp] theorem State.declinePending_grant (n : Nat) : (s.declinePending n).seq.grant = s.seq.grant := by
  unfold State.declinePending; split <;> simp [State.produceDecline]

@[simp] theorem State.declinePending_pending_clear (n : Nat) : (s.declinePending n).seq.pendingTakeover = false := by
  unfold State.declinePending
  split
  · simp [State.produceDecline]
  · rename_i h; simpa using h

/-- R135: the state is TRIPPED, the grant as it was, and no takeover is pending. -/
@[simp] theorem State.enterTripped_drive : s.enterTripped.seq.drive = .tripped := by simp [State.enterTripped]

@[simp] theorem State.enterTripped_grant : s.enterTripped.seq.grant = s.seq.grant := by simp [State.enterTripped]

@[simp] theorem State.enterTripped_pendingTakeover : s.enterTripped.seq.pendingTakeover = false := by
  simp [State.enterTripped]

/-! ## Declaration (R144) -/

/-- R144: a declaration is its core followed by raises at the Reporter, in some order. -/
theorem State.declareTrip_cases (r : CauseRecord) :
    ∃ n rpt, s.declareTrip r = { s.declaredCore r with draws := n, rpt := rpt } := by
  unfold State.declareTrip
  split
  · exact ⟨_, _, rfl⟩
  · rename_i x xs _
    rcases inEitherOrder_cases (State.raiseAttention (tripRaise r)) (State.raiseAll (x :: xs)) (s.declaredCore r) with e | e
    · rw [e, State.raiseAll_eq]; exact ⟨_, _, rfl⟩
    · rw [e, State.raiseAll_eq]; exact ⟨_, _, rfl⟩

@[simp] theorem State.declaredCore_pending (r : CauseRecord) : (s.declaredCore r).pending = s.pending := by
  unfold State.declaredCore; split <;> simp
@[simp] theorem State.declaredCore_intake (r : CauseRecord) : (s.declaredCore r).intake = s.intake := by
  unfold State.declaredCore; split <;> simp
@[simp] theorem State.declaredCore_split (r : CauseRecord) : (s.declaredCore r).split = s.split := by
  unfold State.declaredCore; split <;> simp
@[simp] theorem State.declaredCore_vib (r : CauseRecord) : (s.declaredCore r).vib = s.vib := by
  unfold State.declaredCore; split <;> simp
@[simp] theorem State.declareTrip_pending (r : CauseRecord) : (s.declareTrip r).pending = s.pending := by
  obtain ⟨n, rpt, e⟩ := s.declareTrip_cases r
  rw [e]; simp
@[simp] theorem State.declareTrip_intake (r : CauseRecord) : (s.declareTrip r).intake = s.intake := by
  obtain ⟨n, rpt, e⟩ := s.declareTrip_cases r
  rw [e]; simp
@[simp] theorem State.declareTrip_split (r : CauseRecord) : (s.declareTrip r).split = s.split := by
  obtain ⟨n, rpt, e⟩ := s.declareTrip_cases r
  rw [e]; simp
@[simp] theorem State.declareTrip_vib (r : CauseRecord) : (s.declareTrip r).vib = s.vib := by
  obtain ⟨n, rpt, e⟩ := s.declareTrip_cases r
  rw [e]; simp

/-- R144: what holds right after a declaration. -/
theorem State.declareTrip_spec (r : CauseRecord) :
    (s.declareTrip r).seq.drive = .tripped ∧ (s.declareTrip r).tru = s.tru.declare r s.cycleTag ∧
      (s.declareTrip r).seq.grant = s.seq.grant ∧ (s.declareTrip r).seq.pendingTakeover = false ∧
      (s.declareTrip r).lim.breakaway = none ∧ (s.declareTrip r).sched.pin = none ∧
      (s.declareTrip r).sched.activation = none ∧ (s.declareTrip r).sched.active = s.sched.active ∧
      (s.declareTrip r).recorder = (s.startCapture r).1 ∧ (s.declareTrip r).rp.strap = s.rp.strap := by
  obtain ⟨n, rpt, e⟩ := s.declareTrip_cases r
  rw [e]
  unfold State.declaredCore
  have hp : ∀ t : State, ((t.endPin).answerActivation .cancelled).sched.pin = none := by
    intro t; unfold State.answerActivation; split <;> rfl
  split <;> simp [hp]

/-- A later cause touches the Trip Unit, the Recorder, the Reporter and the draws alone (R146). -/
theorem State.laterCause_eq (r : CauseRecord) :
    s.laterCause r = { s with
      draws := (s.laterCause r).draws, tru := (s.laterCause r).tru, recorder := (s.laterCause r).recorder,
      rpt := (s.laterCause r).rpt } := by
  have ht : ∀ t : State, t.truncateCapture =
      { t with recorder := t.truncateCapture.recorder, rpt := t.truncateCapture.rpt } := by
    intro t; unfold State.truncateCapture; split <;> rfl
  have hc : ∀ (c : Cause) (t : State), t.cycleLostTruncates c =
      { t with recorder := (t.cycleLostTruncates c).recorder, rpt := (t.cycleLostTruncates c).rpt } := by
    intro c t; unfold State.cycleLostTruncates; split
    · exact ht t
    · rfl
  have hu : ∀ (g : Header → Header) (t : State), t.updateTripHeader g =
      { t with recorder := (t.updateTripHeader g).recorder } := by
    intro g t; unfold State.updateTripHeader; repeat' split
    all_goals rfl
  unfold State.laterCause
  simp only
  split
  · rw [hc]
  · split
    · split
      · rcases inEitherOrder_cases (State.raiseAttention (tripRaise r)) State.truncateCapture
            (({ s with tru := { s.tru with later := s.tru.later ++ [(r.cause, s.tru.age)] } } : State).recordLater
              r.cause s.tru.age) with e | e <;> rw [e, ht, State.recordLater, hu] <;> rfl
      · rw [State.recordLater, hu]; rfl
    · rw [hc, State.recordDropped, hu]


/-! ## One raise (R142) -/

/-- R142: what one raise does: nothing beyond the standing flag, a report, a later cause, or a declaration. -/
theorem State.raiseCause_cases (c : Cause) (who : Who) (detail : Int) :
    let t : State := { s with tru := { s.tru with standing := s.tru.standing.raised c } }
    s.raiseCause c who detail = t ∨
    ((s.classOf c = .warn ∨ s.classOf c = .trip ∧ s.seq.drive = .blocked) ∧ s.tru.standing.get c = false ∧
      s.raiseCause c who detail = t.reportCause ⟨c, who, detail⟩) ∨
    (s.classOf c = .trip ∧ s.seq.drive = .tripped ∧ s.raiseCause c who detail = t.laterCause ⟨c, who, detail⟩) ∨
    (s.classOf c = .trip ∧ s.seq.drive ≠ .tripped ∧ s.seq.drive ≠ .blocked ∧
      s.raiseCause c who detail = t.declareTrip ⟨c, who, detail⟩) := by
  intro t
  unfold State.raiseCause
  cases hc : s.classOf c with
  | ignore => exact .inl rfl
  | warn =>
    cases hg : s.tru.standing.get c with
    | true => exact .inl (by simp [t])
    | false => exact .inr (.inl ⟨.inl rfl, rfl, by simp [t]⟩)
  | trip =>
    cases hd : s.seq.drive with
    | tripped => exact .inr (.inr (.inl ⟨rfl, rfl, rfl⟩))
    | blocked =>
      cases hg : s.tru.standing.get c with
      | true => exact .inl (by simp [t])
      | false => exact .inr (.inl ⟨.inr ⟨rfl, rfl⟩, rfl, by simp [t]⟩)
    | ready => exact .inr (.inr (.inr ⟨rfl, by simp, by simp, rfl⟩))
    | running => exact .inr (.inr (.inr ⟨rfl, by simp, by simp, rfl⟩))
    | turning => exact .inr (.inr (.inr ⟨rfl, by simp, by simp, rfl⟩))
    | stopping => exact .inr (.inr (.inr ⟨rfl, by simp, by simp, rfl⟩))
    | auxiliary => exact .inr (.inr (.inr ⟨rfl, by simp, by simp, rfl⟩))

@[simp] theorem State.raiseCause_pending (c : Cause) (who : Who) (detail : Int) :
    (s.raiseCause c who detail).pending = s.pending := by
  rcases s.raiseCause_cases c who detail with e | ⟨_, _, e⟩ | ⟨_, _, e⟩ | ⟨_, _, _, e⟩ <;> rw [e]
  · simp
  · rw [State.laterCause_eq]
  · simp
@[simp] theorem State.raiseCause_intake (c : Cause) (who : Who) (detail : Int) :
    (s.raiseCause c who detail).intake = s.intake := by
  rcases s.raiseCause_cases c who detail with e | ⟨_, _, e⟩ | ⟨_, _, e⟩ | ⟨_, _, _, e⟩ <;> rw [e]
  · simp
  · rw [State.laterCause_eq]
  · simp
@[simp] theorem State.raiseCause_split (c : Cause) (who : Who) (detail : Int) :
    (s.raiseCause c who detail).split = s.split := by
  rcases s.raiseCause_cases c who detail with e | ⟨_, _, e⟩ | ⟨_, _, e⟩ | ⟨_, _, _, e⟩ <;> rw [e]
  · simp
  · rw [State.laterCause_eq]
  · simp
@[simp] theorem State.raiseCause_vib (c : Cause) (who : Who) (detail : Int) :
    (s.raiseCause c who detail).vib = s.vib := by
  rcases s.raiseCause_cases c who detail with e | ⟨_, _, e⟩ | ⟨_, _, e⟩ | ⟨_, _, _, e⟩ <;> rw [e]
  · simp
  · rw [State.laterCause_eq]
  · simp

/-- R144: a raise keeps the active bank and the part's own address. -/
theorem State.raiseCause_bank (c : Cause) (who : Who) (detail : Int) :
    (s.raiseCause c who detail).sched.active = s.sched.active ∧ (s.raiseCause c who detail).rp.strap = s.rp.strap := by
  rcases s.raiseCause_cases c who detail with e | ⟨_, _, e⟩ | ⟨_, _, e⟩ | ⟨_, _, _, e⟩ <;> rw [e]
  · simp
  · simp
  · rw [State.laterCause_eq]; simp
  · have h := State.declareTrip_spec
      ({ s with tru := { s.tru with standing := s.tru.standing.raised c } } : State) ⟨c, who, detail⟩
    exact ⟨h.2.2.2.2.2.2.2.1, h.2.2.2.2.2.2.2.2.2⟩

@[simp] theorem State.raiseCause_active (c : Cause) (who : Who) (detail : Int) :
    (s.raiseCause c who detail).sched.active = s.sched.active := (s.raiseCause_bank c who detail).1

@[simp] theorem State.raiseCause_strap (c : Cause) (who : Who) (detail : Int) :
    (s.raiseCause c who detail).rp.strap = s.rp.strap := (s.raiseCause_bank c who detail).2

/-- R142, R144: a TRIP-class raise where a trip can be declared declares one. -/
theorem State.raiseCause_declares {c : Cause} (hc : s.classOf c = .trip) (h1 : s.seq.drive ≠ .blocked)
    (h2 : s.seq.drive ≠ .tripped) (who : Who) (detail : Int) :
    s.raiseCause c who detail =
      ({ s with tru := { s.tru with standing := s.tru.standing.raised c } } : State).declareTrip ⟨c, who, detail⟩ := by
  unfold State.raiseCause
  simp only [hc]

/-- R142, R144: what holds after a raise that declares a trip. -/
theorem State.raiseCause_tripped {c : Cause} (hc : s.classOf c = .trip) (h1 : s.seq.drive ≠ .blocked)
    (h2 : s.seq.drive ≠ .tripped) (who : Who) (detail : Int) :
    (s.raiseCause c who detail).seq.drive = .tripped ∧
      (s.raiseCause c who detail).tru =
        ({ s.tru with standing := s.tru.standing.raised c } : TripUnit).declare ⟨c, who, detail⟩ s.cycleTag ∧
      (s.raiseCause c who detail).lim.breakaway = none ∧ (s.raiseCause c who detail).sched.pin = none ∧
      (s.raiseCause c who detail).sched.activation = none := by
  rw [State.raiseCause_declares s hc h1 h2]
  have h := State.declareTrip_spec
    ({ s with tru := { s.tru with standing := s.tru.standing.raised c } } : State) ⟨c, who, detail⟩
  exact ⟨h.1, h.2.1, h.2.2.2.2.1, h.2.2.2.2.2.1, h.2.2.2.2.2.2.1⟩

/-- R67, R144: a raise leaves what the limiter keeps for each motor. -/
@[simp] theorem State.raiseCause_motor (c : Cause) (who : Who) (detail : Int) :
    (s.raiseCause c who detail).lim.motor = s.lim.motor := by
  rcases s.raiseCause_cases c who detail with e | ⟨_, _, e⟩ | ⟨_, _, e⟩ | ⟨_, _, _, e⟩ <;> rw [e]
  · simp
  · rw [State.laterCause_eq]
  · obtain ⟨n, r, e⟩ := State.declareTrip_cases
      ({ s with tru := { s.tru with standing := s.tru.standing.raised c } } : State) ⟨c, who, detail⟩
    rw [e]
    unfold State.declaredCore
    have hab : ∀ t : State, t.abandonBreakaway.lim.motor = t.lim.motor := by
      intro t; unfold State.abandonBreakaway; split <;> rfl
    split <;> simp [hab]

end Sys2Proof.Machine
end

