-- ==== Sys2Proof/Laws/Blocks.lean ====
section
/-! SUPPORT. The fields each block's operations leave alone, and those every raise leaves alone within them. -/

namespace Sys2Proof.Machine

variable (s : State)

/-! ## Ring Port (chapter 1) -/

@[simp] theorem State.joinQueue_strap (f : RawFrame) : (s.joinQueue f).rp.strap = s.rp.strap := by
  simp [State.joinQueue]
@[simp] theorem State.tookPlace_strap (p : Producer) : (s.tookPlace p).rp.strap = s.rp.strap := rfl

/-! ## Vibration Watch (chapter 6) -/

@[simp] theorem State.reformCeilings_pending : s.reformCeilings.pending = s.pending := by
  unfold State.reformCeilings; (repeat' split) <;> simp
@[simp] theorem State.reformCeilings_draws : s.reformCeilings.draws = s.draws := by
  unfold State.reformCeilings; (repeat' split) <;> simp
@[simp] theorem State.reformCeilings_rp : s.reformCeilings.rp = s.rp := by
  unfold State.reformCeilings; (repeat' split) <;> simp
@[simp] theorem State.reformCeilings_intake : s.reformCeilings.intake = s.intake := by
  unfold State.reformCeilings; (repeat' split) <;> simp
@[simp] theorem State.reformCeilings_sched : s.reformCeilings.sched = s.sched := by
  unfold State.reformCeilings; (repeat' split) <;> simp
@[simp] theorem State.reformCeilings_split : s.reformCeilings.split = s.split := by
  unfold State.reformCeilings; (repeat' split) <;> simp
@[simp] theorem State.reformCeilings_lim : s.reformCeilings.lim = s.lim := by
  unfold State.reformCeilings; (repeat' split) <;> simp
@[simp] theorem State.reformCeilings_reg : s.reformCeilings.reg = s.reg := by
  unfold State.reformCeilings; (repeat' split) <;> simp
@[simp] theorem State.reformCeilings_seq : s.reformCeilings.seq = s.seq := by
  unfold State.reformCeilings; (repeat' split) <;> simp
@[simp] theorem State.reformCeilings_tru : s.reformCeilings.tru = s.tru := by
  unfold State.reformCeilings; (repeat' split) <;> simp
@[simp] theorem State.reformCeilings_recorder : s.reformCeilings.recorder = s.recorder := by
  unfold State.reformCeilings; (repeat' split) <;> simp
@[simp] theorem State.reformCeilings_rqh : s.reformCeilings.rqh = s.rqh := by
  unfold State.reformCeilings; (repeat' split) <;> simp
@[simp] theorem State.reformCeilings_rpt : s.reformCeilings.rpt = s.rpt := by
  unfold State.reformCeilings; (repeat' split) <;> simp
@[simp] theorem State.reformCeiling_pending (b : Bank) (m : Motor) : (s.reformCeiling b m).pending = s.pending := by
  simp [State.reformCeiling]
@[simp] theorem State.reformCeiling_draws (b : Bank) (m : Motor) : (s.reformCeiling b m).draws = s.draws := by
  simp [State.reformCeiling]
@[simp] theorem State.reformCeiling_rp (b : Bank) (m : Motor) : (s.reformCeiling b m).rp = s.rp := by
  simp [State.reformCeiling]
@[simp] theorem State.reformCeiling_intake (b : Bank) (m : Motor) : (s.reformCeiling b m).intake = s.intake := by
  simp [State.reformCeiling]
@[simp] theorem State.reformCeiling_sched (b : Bank) (m : Motor) : (s.reformCeiling b m).sched = s.sched := by
  simp [State.reformCeiling]
@[simp] theorem State.reformCeiling_split (b : Bank) (m : Motor) : (s.reformCeiling b m).split = s.split := by
  simp [State.reformCeiling]
@[simp] theorem State.reformCeiling_lim (b : Bank) (m : Motor) : (s.reformCeiling b m).lim = s.lim := by
  simp [State.reformCeiling]
@[simp] theorem State.reformCeiling_reg (b : Bank) (m : Motor) : (s.reformCeiling b m).reg = s.reg := by
  simp [State.reformCeiling]
@[simp] theorem State.reformCeiling_seq (b : Bank) (m : Motor) : (s.reformCeiling b m).seq = s.seq := by
  simp [State.reformCeiling]
@[simp] theorem State.reformCeiling_tru (b : Bank) (m : Motor) : (s.reformCeiling b m).tru = s.tru := by
  simp [State.reformCeiling]
@[simp] theorem State.reformCeiling_recorder (b : Bank) (m : Motor) : (s.reformCeiling b m).recorder = s.recorder := by
  simp [State.reformCeiling]
@[simp] theorem State.reformCeiling_rqh (b : Bank) (m : Motor) : (s.reformCeiling b m).rqh = s.rqh := by
  simp [State.reformCeiling]
@[simp] theorem State.reformCeiling_rpt (b : Bank) (m : Motor) : (s.reformCeiling b m).rpt = s.rpt := by
  simp [State.reformCeiling]
@[simp] theorem State.discardWindows_pending (m : Motor) : (s.discardWindows m).pending = s.pending := by
  unfold State.discardWindows; (repeat' split) <;> simp
@[simp] theorem State.discardWindows_draws (m : Motor) : (s.discardWindows m).draws = s.draws := by
  unfold State.discardWindows; (repeat' split) <;> simp
@[simp] theorem State.discardWindows_rp (m : Motor) : (s.discardWindows m).rp = s.rp := by
  unfold State.discardWindows; (repeat' split) <;> simp
@[simp] theorem State.discardWindows_intake (m : Motor) : (s.discardWindows m).intake = s.intake := by
  unfold State.discardWindows; (repeat' split) <;> simp
@[simp] theorem State.discardWindows_sched (m : Motor) : (s.discardWindows m).sched = s.sched := by
  unfold State.discardWindows; (repeat' split) <;> simp
@[simp] theorem State.discardWindows_split (m : Motor) : (s.discardWindows m).split = s.split := by
  unfold State.discardWindows; (repeat' split) <;> simp
@[simp] theorem State.discardWindows_lim (m : Motor) : (s.discardWindows m).lim = s.lim := by
  unfold State.discardWindows; (repeat' split) <;> simp
@[simp] theorem State.discardWindows_reg (m : Motor) : (s.discardWindows m).reg = s.reg := by
  unfold State.discardWindows; (repeat' split) <;> simp
@[simp] theorem State.discardWindows_seq (m : Motor) : (s.discardWindows m).seq = s.seq := by
  unfold State.discardWindows; (repeat' split) <;> simp
@[simp] theorem State.discardWindows_tru (m : Motor) : (s.discardWindows m).tru = s.tru := by
  unfold State.discardWindows; (repeat' split) <;> simp
@[simp] theorem State.discardWindows_recorder (m : Motor) : (s.discardWindows m).recorder = s.recorder := by
  unfold State.discardWindows; (repeat' split) <;> simp
@[simp] theorem State.discardWindows_rqh (m : Motor) : (s.discardWindows m).rqh = s.rqh := by
  unfold State.discardWindows; (repeat' split) <;> simp
@[simp] theorem State.discardWindows_rpt (m : Motor) : (s.discardWindows m).rpt = s.rpt := by
  unfold State.discardWindows; (repeat' split) <;> simp
@[simp] theorem State.vibrationOnReady_pending : s.vibrationOnReady.pending = s.pending := by
  simp [State.vibrationOnReady]
@[simp] theorem State.vibrationOnReady_draws : s.vibrationOnReady.draws = s.draws := by
  simp [State.vibrationOnReady]
@[simp] theorem State.vibrationOnReady_rp : s.vibrationOnReady.rp = s.rp := by
  simp [State.vibrationOnReady]
@[simp] theorem State.vibrationOnReady_intake : s.vibrationOnReady.intake = s.intake := by
  simp [State.vibrationOnReady]
@[simp] theorem State.vibrationOnReady_sched : s.vibrationOnReady.sched = s.sched := by
  simp [State.vibrationOnReady]
@[simp] theorem State.vibrationOnReady_split : s.vibrationOnReady.split = s.split := by
  simp [State.vibrationOnReady]
@[simp] theorem State.vibrationOnReady_lim : s.vibrationOnReady.lim = s.lim := by
  simp [State.vibrationOnReady]
@[simp] theorem State.vibrationOnReady_reg : s.vibrationOnReady.reg = s.reg := by
  simp [State.vibrationOnReady]
@[simp] theorem State.vibrationOnReady_seq : s.vibrationOnReady.seq = s.seq := by
  simp [State.vibrationOnReady]
@[simp] theorem State.vibrationOnReady_tru : s.vibrationOnReady.tru = s.tru := by
  simp [State.vibrationOnReady]
@[simp] theorem State.vibrationOnReady_recorder : s.vibrationOnReady.recorder = s.recorder := by
  simp [State.vibrationOnReady]
@[simp] theorem State.vibrationOnReady_rqh : s.vibrationOnReady.rqh = s.rqh := by
  simp [State.vibrationOnReady]
@[simp] theorem State.vibrationOnReady_rpt : s.vibrationOnReady.rpt = s.rpt := by
  simp [State.vibrationOnReady]
@[simp] theorem State.vibrationSwapped_pending (old : Option Bank) : (s.vibrationSwapped old).pending = s.pending := by
  simp [State.vibrationSwapped]
@[simp] theorem State.vibrationSwapped_draws (old : Option Bank) : (s.vibrationSwapped old).draws = s.draws := by
  simp [State.vibrationSwapped]
@[simp] theorem State.vibrationSwapped_rp (old : Option Bank) : (s.vibrationSwapped old).rp = s.rp := by
  simp [State.vibrationSwapped]
@[simp] theorem State.vibrationSwapped_intake (old : Option Bank) : (s.vibrationSwapped old).intake = s.intake := by
  simp [State.vibrationSwapped]
@[simp] theorem State.vibrationSwapped_sched (old : Option Bank) : (s.vibrationSwapped old).sched = s.sched := by
  simp [State.vibrationSwapped]
@[simp] theorem State.vibrationSwapped_split (old : Option Bank) : (s.vibrationSwapped old).split = s.split := by
  simp [State.vibrationSwapped]
@[simp] theorem State.vibrationSwapped_lim (old : Option Bank) : (s.vibrationSwapped old).lim = s.lim := by
  simp [State.vibrationSwapped]
@[simp] theorem State.vibrationSwapped_reg (old : Option Bank) : (s.vibrationSwapped old).reg = s.reg := by
  simp [State.vibrationSwapped]
@[simp] theorem State.vibrationSwapped_seq (old : Option Bank) : (s.vibrationSwapped old).seq = s.seq := by
  simp [State.vibrationSwapped]
@[simp] theorem State.vibrationSwapped_tru (old : Option Bank) : (s.vibrationSwapped old).tru = s.tru := by
  simp [State.vibrationSwapped]
@[simp] theorem State.vibrationSwapped_recorder (old : Option Bank) : (s.vibrationSwapped old).recorder = s.recorder := by
  simp [State.vibrationSwapped]
@[simp] theorem State.vibrationSwapped_rqh (old : Option Bank) : (s.vibrationSwapped old).rqh = s.rqh := by
  simp [State.vibrationSwapped]
@[simp] theorem State.vibrationSwapped_rpt (old : Option Bank) : (s.vibrationSwapped old).rpt = s.rpt := by
  simp [State.vibrationSwapped]
@[simp] theorem State.raiseVibEvent_pending (k : Fin 4) (n : Nat) (e : VibEvent) : (s.raiseVibEvent k n e).pending = s.pending := by
  cases e <;> simp [State.raiseVibEvent]
@[simp] theorem State.raiseVibEvent_intake (k : Fin 4) (n : Nat) (e : VibEvent) : (s.raiseVibEvent k n e).intake = s.intake := by
  cases e <;> simp [State.raiseVibEvent]
@[simp] theorem State.raiseVibEvent_split (k : Fin 4) (n : Nat) (e : VibEvent) : (s.raiseVibEvent k n e).split = s.split := by
  cases e <;> simp [State.raiseVibEvent]
@[simp] theorem State.raiseVibEvent_vib (k : Fin 4) (n : Nat) (e : VibEvent) : (s.raiseVibEvent k n e).vib = s.vib := by
  cases e <;> simp [State.raiseVibEvent]
@[simp] theorem State.raiseVibEvent_active (k : Fin 4) (n : Nat) (e : VibEvent) : (s.raiseVibEvent k n e).sched.active = s.sched.active := by
  cases e <;> simp [State.raiseVibEvent]
@[simp] theorem State.raiseVibEvent_strap (k : Fin 4) (n : Nat) (e : VibEvent) : (s.raiseVibEvent k n e).rp.strap = s.rp.strap := by
  cases e <;> simp [State.raiseVibEvent]

/-- What a raise keeps, the raises of one window keep. -/
theorem State.raiseVibEvents_field {α : Type} (g : State → α) (k : Fin 4) (n : Nat)
    (h : ∀ t e, g (State.raiseVibEvent k n t e) = g t) (es : List VibEvent) (s : State) :
    g (es.foldl (fun t e => t.raiseVibEvent k n e) s) = g s := by
  induction es generalizing s with
  | nil => rfl
  | cons e es ih => rw [List.foldl_cons, ih, h]

@[simp] theorem State.closeWindow_pending (b : Bank) (k : Fin 4) : (s.closeWindow b k).pending = s.pending := by
  unfold State.closeWindow
  simp only []
  split
  · simp
  · split
    · rw [State.raiseVibEvents_field (·.pending) _ _ (fun _ _ => by simp)]
      split <;> simp
    · simp
@[simp] theorem State.closeWindow_intake (b : Bank) (k : Fin 4) : (s.closeWindow b k).intake = s.intake := by
  unfold State.closeWindow
  simp only []
  split
  · simp
  · split
    · rw [State.raiseVibEvents_field (·.intake) _ _ (fun _ _ => by simp)]
      split <;> simp
    · simp
@[simp] theorem State.closeWindow_split (b : Bank) (k : Fin 4) : (s.closeWindow b k).split = s.split := by
  unfold State.closeWindow
  simp only []
  split
  · simp
  · split
    · rw [State.raiseVibEvents_field (·.split) _ _ (fun _ _ => by simp)]
      split <;> simp
    · simp
@[simp] theorem State.closeWindow_active (b : Bank) (k : Fin 4) : (s.closeWindow b k).sched.active = s.sched.active := by
  unfold State.closeWindow
  simp only []
  split
  · simp
  · split
    · rw [State.raiseVibEvents_field (·.sched.active) _ _ (fun _ _ => by simp)]
      split <;> simp
    · simp
@[simp] theorem State.closeWindow_strap (b : Bank) (k : Fin 4) : (s.closeWindow b k).rp.strap = s.rp.strap := by
  unfold State.closeWindow
  simp only []
  split
  · simp
  · split
    · rw [State.raiseVibEvents_field (·.rp.strap) _ _ (fun _ _ => by simp)]
      split <;> simp
    · simp
@[simp] theorem State.closeIfFull_pending (b : Bank) (k : Fin 4) : (s.closeIfFull b k).pending = s.pending := by
  unfold State.closeIfFull; simp only []; (repeat' split) <;> simp
@[simp] theorem State.closeIfFull_intake (b : Bank) (k : Fin 4) : (s.closeIfFull b k).intake = s.intake := by
  unfold State.closeIfFull; simp only []; (repeat' split) <;> simp
@[simp] theorem State.closeIfFull_split (b : Bank) (k : Fin 4) : (s.closeIfFull b k).split = s.split := by
  unfold State.closeIfFull; simp only []; (repeat' split) <;> simp
@[simp] theorem State.closeIfFull_active (b : Bank) (k : Fin 4) : (s.closeIfFull b k).sched.active = s.sched.active := by
  unfold State.closeIfFull; simp only []; (repeat' split) <;> simp
@[simp] theorem State.closeIfFull_strap (b : Bank) (k : Fin 4) : (s.closeIfFull b k).rp.strap = s.rp.strap := by
  unfold State.closeIfFull; simp only []; (repeat' split) <;> simp
@[simp] theorem State.vibrationBlock_pending (k : Fin 4) (q angle : Nat) (l : List Int) : (s.vibrationBlock k q angle l).pending = s.pending := by
  unfold State.vibrationBlock; simp only []; (repeat' split) <;> simp
@[simp] theorem State.vibrationBlock_intake (k : Fin 4) (q angle : Nat) (l : List Int) : (s.vibrationBlock k q angle l).intake = s.intake := by
  unfold State.vibrationBlock; simp only []; (repeat' split) <;> simp
@[simp] theorem State.vibrationBlock_split (k : Fin 4) (q angle : Nat) (l : List Int) : (s.vibrationBlock k q angle l).split = s.split := by
  unfold State.vibrationBlock; simp only []; (repeat' split) <;> simp
@[simp] theorem State.vibrationBlock_active (k : Fin 4) (q angle : Nat) (l : List Int) : (s.vibrationBlock k q angle l).sched.active = s.sched.active := by
  unfold State.vibrationBlock; simp only []; (repeat' split) <;> simp
@[simp] theorem State.vibrationBlock_strap (k : Fin 4) (q angle : Nat) (l : List Int) : (s.vibrationBlock k q angle l).rp.strap = s.rp.strap := by
  unfold State.vibrationBlock; simp only []; (repeat' split) <;> simp

/-! ## Torque Limiter (chapter 4) -/

@[simp] theorem State.startBreakaway_pending : s.startBreakaway.pending = s.pending := by
  unfold State.startBreakaway; (repeat' split) <;> simp
@[simp] theorem State.startBreakaway_draws : s.startBreakaway.draws = s.draws := by
  unfold State.startBreakaway; (repeat' split) <;> simp
@[simp] theorem State.startBreakaway_rp : s.startBreakaway.rp = s.rp := by
  unfold State.startBreakaway; (repeat' split) <;> simp
@[simp] theorem State.startBreakaway_intake : s.startBreakaway.intake = s.intake := by
  unfold State.startBreakaway; (repeat' split) <;> simp
@[simp] theorem State.startBreakaway_sched : s.startBreakaway.sched = s.sched := by
  unfold State.startBreakaway; (repeat' split) <;> simp
@[simp] theorem State.startBreakaway_split : s.startBreakaway.split = s.split := by
  unfold State.startBreakaway; (repeat' split) <;> simp
@[simp] theorem State.startBreakaway_reg : s.startBreakaway.reg = s.reg := by
  unfold State.startBreakaway; (repeat' split) <;> simp
@[simp] theorem State.startBreakaway_vib : s.startBreakaway.vib = s.vib := by
  unfold State.startBreakaway; (repeat' split) <;> simp
@[simp] theorem State.startBreakaway_seq : s.startBreakaway.seq = s.seq := by
  unfold State.startBreakaway; (repeat' split) <;> simp
@[simp] theorem State.startBreakaway_tru : s.startBreakaway.tru = s.tru := by
  unfold State.startBreakaway; (repeat' split) <;> simp
@[simp] theorem State.startBreakaway_recorder : s.startBreakaway.recorder = s.recorder := by
  unfold State.startBreakaway; (repeat' split) <;> simp
@[simp] theorem State.startBreakaway_rqh : s.startBreakaway.rqh = s.rqh := by
  unfold State.startBreakaway; (repeat' split) <;> simp
@[simp] theorem State.startBreakaway_rpt : s.startBreakaway.rpt = s.rpt := by
  unfold State.startBreakaway; (repeat' split) <;> simp
@[simp] theorem State.startBreakaway_motor : s.startBreakaway.lim.motor = s.lim.motor := by
  unfold State.startBreakaway; (repeat' split) <;> simp
@[simp] theorem State.achieveBreakaway_pending (b : Bank) (v : Int) : (s.achieveBreakaway b v).pending = s.pending := by
  unfold State.achieveBreakaway; (repeat' split) <;> simp
@[simp] theorem State.achieveBreakaway_draws (b : Bank) (v : Int) : (s.achieveBreakaway b v).draws = s.draws := by
  unfold State.achieveBreakaway; (repeat' split) <;> simp
@[simp] theorem State.achieveBreakaway_rp (b : Bank) (v : Int) : (s.achieveBreakaway b v).rp = s.rp := by
  unfold State.achieveBreakaway; (repeat' split) <;> simp
@[simp] theorem State.achieveBreakaway_intake (b : Bank) (v : Int) : (s.achieveBreakaway b v).intake = s.intake := by
  unfold State.achieveBreakaway; (repeat' split) <;> simp
@[simp] theorem State.achieveBreakaway_sched (b : Bank) (v : Int) : (s.achieveBreakaway b v).sched = s.sched := by
  unfold State.achieveBreakaway; (repeat' split) <;> simp
@[simp] theorem State.achieveBreakaway_split (b : Bank) (v : Int) : (s.achieveBreakaway b v).split = s.split := by
  unfold State.achieveBreakaway; (repeat' split) <;> simp
@[simp] theorem State.achieveBreakaway_reg (b : Bank) (v : Int) : (s.achieveBreakaway b v).reg = s.reg := by
  unfold State.achieveBreakaway; (repeat' split) <;> simp
@[simp] theorem State.achieveBreakaway_vib (b : Bank) (v : Int) : (s.achieveBreakaway b v).vib = s.vib := by
  unfold State.achieveBreakaway; (repeat' split) <;> simp
@[simp] theorem State.achieveBreakaway_seq (b : Bank) (v : Int) : (s.achieveBreakaway b v).seq = s.seq := by
  unfold State.achieveBreakaway; (repeat' split) <;> simp
@[simp] theorem State.achieveBreakaway_tru (b : Bank) (v : Int) : (s.achieveBreakaway b v).tru = s.tru := by
  unfold State.achieveBreakaway; (repeat' split) <;> simp
@[simp] theorem State.achieveBreakaway_recorder (b : Bank) (v : Int) : (s.achieveBreakaway b v).recorder = s.recorder := by
  unfold State.achieveBreakaway; (repeat' split) <;> simp
@[simp] theorem State.achieveBreakaway_rqh (b : Bank) (v : Int) : (s.achieveBreakaway b v).rqh = s.rqh := by
  unfold State.achieveBreakaway; (repeat' split) <;> simp
@[simp] theorem State.achieveBreakaway_rpt (b : Bank) (v : Int) : (s.achieveBreakaway b v).rpt = s.rpt := by
  unfold State.achieveBreakaway; (repeat' split) <;> simp
@[simp] theorem State.achieveBreakaway_motor (b : Bank) (v : Int) : (s.achieveBreakaway b v).lim.motor = s.lim.motor := by
  unfold State.achieveBreakaway; (repeat' split) <;> simp
@[simp] theorem State.countBreakaway_pending : s.countBreakaway.pending = s.pending := by
  unfold State.countBreakaway; (repeat' split) <;> simp
@[simp] theorem State.countBreakaway_intake : s.countBreakaway.intake = s.intake := by
  unfold State.countBreakaway; (repeat' split) <;> simp
@[simp] theorem State.countBreakaway_split : s.countBreakaway.split = s.split := by
  unfold State.countBreakaway; (repeat' split) <;> simp
@[simp] theorem State.countBreakaway_vib : s.countBreakaway.vib = s.vib := by
  unfold State.countBreakaway; (repeat' split) <;> simp
@[simp] theorem State.countBreakaway_active : s.countBreakaway.sched.active = s.sched.active := by
  unfold State.countBreakaway; (repeat' split) <;> simp
@[simp] theorem State.countBreakaway_strap : s.countBreakaway.rp.strap = s.rp.strap := by
  unfold State.countBreakaway; (repeat' split) <;> simp
@[simp] theorem State.countBreakaway_motor : s.countBreakaway.lim.motor = s.lim.motor := by
  unfold State.countBreakaway; (repeat' split) <;> simp
@[simp] theorem State.limiterMark_pending : s.limiterMark.pending = s.pending := by
  unfold State.limiterMark; split <;> simp
@[simp] theorem State.limiterMark_intake : s.limiterMark.intake = s.intake := by
  unfold State.limiterMark; split <;> simp
@[simp] theorem State.limiterMark_split : s.limiterMark.split = s.split := by
  unfold State.limiterMark; split <;> simp
@[simp] theorem State.limiterMark_vib : s.limiterMark.vib = s.vib := by
  unfold State.limiterMark; split <;> simp
@[simp] theorem State.limiterMark_active : s.limiterMark.sched.active = s.sched.active := by
  unfold State.limiterMark; split <;> simp
@[simp] theorem State.limiterMark_strap : s.limiterMark.rp.strap = s.rp.strap := by
  unfold State.limiterMark; split <;> simp
@[simp] theorem State.shockEvent_pending (b : Bank) (m : Motor) (d : Int) : (s.shockEvent b m d).pending = s.pending := by
  unfold State.shockEvent; simp only []; (repeat' split) <;> simp
@[simp] theorem State.shockEvent_intake (b : Bank) (m : Motor) (d : Int) : (s.shockEvent b m d).intake = s.intake := by
  unfold State.shockEvent; simp only []; (repeat' split) <;> simp
@[simp] theorem State.shockEvent_split (b : Bank) (m : Motor) (d : Int) : (s.shockEvent b m d).split = s.split := by
  unfold State.shockEvent; simp only []; (repeat' split) <;> simp
@[simp] theorem State.shockEvent_active (b : Bank) (m : Motor) (d : Int) : (s.shockEvent b m d).sched.active = s.sched.active := by
  unfold State.shockEvent; simp only []; (repeat' split) <;> simp
@[simp] theorem State.shockEvent_strap (b : Bank) (m : Motor) (d : Int) : (s.shockEvent b m d).rp.strap = s.rp.strap := by
  unfold State.shockEvent; simp only []; (repeat' split) <;> simp
@[simp] theorem State.measureTorque_pending (b : Bank) (m : Motor) (n : Nat) : (s.measureTorque b m n).pending = s.pending := by
  unfold State.measureTorque; simp only []; (repeat' split) <;> simp
@[simp] theorem State.measureTorque_intake (b : Bank) (m : Motor) (n : Nat) : (s.measureTorque b m n).intake = s.intake := by
  unfold State.measureTorque; simp only []; (repeat' split) <;> simp
@[simp] theorem State.measureTorque_split (b : Bank) (m : Motor) (n : Nat) : (s.measureTorque b m n).split = s.split := by
  unfold State.measureTorque; simp only []; (repeat' split) <;> simp
@[simp] theorem State.measureTorque_active (b : Bank) (m : Motor) (n : Nat) : (s.measureTorque b m n).sched.active = s.sched.active := by
  unfold State.measureTorque; simp only []; (repeat' split) <;> simp
@[simp] theorem State.measureTorque_strap (b : Bank) (m : Motor) (n : Nat) : (s.measureTorque b m n).rp.strap = s.rp.strap := by
  unfold State.measureTorque; simp only []; (repeat' split) <;> simp
@[simp] theorem State.watchOverspeed_pending (b : Bank) (v : Int) : (s.watchOverspeed b v).pending = s.pending := by
  unfold State.watchOverspeed; (repeat' split) <;> simp
@[simp] theorem State.watchOverspeed_intake (b : Bank) (v : Int) : (s.watchOverspeed b v).intake = s.intake := by
  unfold State.watchOverspeed; (repeat' split) <;> simp
@[simp] theorem State.watchOverspeed_split (b : Bank) (v : Int) : (s.watchOverspeed b v).split = s.split := by
  unfold State.watchOverspeed; (repeat' split) <;> simp
@[simp] theorem State.watchOverspeed_vib (b : Bank) (v : Int) : (s.watchOverspeed b v).vib = s.vib := by
  unfold State.watchOverspeed; (repeat' split) <;> simp
@[simp] theorem State.watchOverspeed_active (b : Bank) (v : Int) : (s.watchOverspeed b v).sched.active = s.sched.active := by
  unfold State.watchOverspeed; (repeat' split) <;> simp
@[simp] theorem State.watchOverspeed_strap (b : Bank) (v : Int) : (s.watchOverspeed b v).rp.strap = s.rp.strap := by
  unfold State.watchOverspeed; (repeat' split) <;> simp
@[simp] theorem State.watchOverspeed_motor (b : Bank) (v : Int) : (s.watchOverspeed b v).lim.motor = s.lim.motor := by
  unfold State.watchOverspeed; (repeat' split) <;> simp

/-! ## Torque Splitter (chapter 3) -/

@[simp] theorem State.checkImbalance_pending (g : Group0) (ia ib : Int) : (s.checkImbalance g ia ib).pending = s.pending := by
  unfold State.checkImbalance; simp only []; (repeat' split) <;> simp
@[simp] theorem State.checkImbalance_intake (g : Group0) (ia ib : Int) : (s.checkImbalance g ia ib).intake = s.intake := by
  unfold State.checkImbalance; simp only []; (repeat' split) <;> simp
@[simp] theorem State.checkImbalance_vib (g : Group0) (ia ib : Int) : (s.checkImbalance g ia ib).vib = s.vib := by
  unfold State.checkImbalance; simp only []; (repeat' split) <;> simp
@[simp] theorem State.checkImbalance_active (g : Group0) (ia ib : Int) : (s.checkImbalance g ia ib).sched.active = s.sched.active := by
  unfold State.checkImbalance; simp only []; (repeat' split) <;> simp
@[simp] theorem State.checkImbalance_strap (g : Group0) (ia ib : Int) : (s.checkImbalance g ia ib).rp.strap = s.rp.strap := by
  unfold State.checkImbalance; simp only []; (repeat' split) <;> simp
@[simp] theorem State.checkImbalance_motor (g : Group0) (ia ib : Int) : (s.checkImbalance g ia ib).lim.motor = s.lim.motor := by
  unfold State.checkImbalance; simp only []; (repeat' split) <;> simp
@[simp] theorem State.raiseLimits_pending (x y : Bool) (a b : Raise) : (s.raiseLimits x y a b).pending = s.pending := by
  unfold State.raiseLimits
  split
  · rfl
  · simp
  · simp
  · exact inEitherOrder_field (·.pending) (fun _ => rfl) (fun _ => by simp) (fun _ => by simp) s
@[simp] theorem State.raiseLimits_rp (x y : Bool) (a b : Raise) : (s.raiseLimits x y a b).rp = s.rp := by
  unfold State.raiseLimits
  split
  · rfl
  · simp
  · simp
  · exact inEitherOrder_field (·.rp) (fun _ => rfl) (fun _ => by simp) (fun _ => by simp) s
@[simp] theorem State.raiseLimits_intake (x y : Bool) (a b : Raise) : (s.raiseLimits x y a b).intake = s.intake := by
  unfold State.raiseLimits
  split
  · rfl
  · simp
  · simp
  · exact inEitherOrder_field (·.intake) (fun _ => rfl) (fun _ => by simp) (fun _ => by simp) s
@[simp] theorem State.raiseLimits_sched (x y : Bool) (a b : Raise) : (s.raiseLimits x y a b).sched = s.sched := by
  unfold State.raiseLimits
  split
  · rfl
  · simp
  · simp
  · exact inEitherOrder_field (·.sched) (fun _ => rfl) (fun _ => by simp) (fun _ => by simp) s
@[simp] theorem State.raiseLimits_split (x y : Bool) (a b : Raise) : (s.raiseLimits x y a b).split = s.split := by
  unfold State.raiseLimits
  split
  · rfl
  · simp
  · simp
  · exact inEitherOrder_field (·.split) (fun _ => rfl) (fun _ => by simp) (fun _ => by simp) s
@[simp] theorem State.raiseLimits_lim (x y : Bool) (a b : Raise) : (s.raiseLimits x y a b).lim = s.lim := by
  unfold State.raiseLimits
  split
  · rfl
  · simp
  · simp
  · exact inEitherOrder_field (·.lim) (fun _ => rfl) (fun _ => by simp) (fun _ => by simp) s
@[simp] theorem State.raiseLimits_reg (x y : Bool) (a b : Raise) : (s.raiseLimits x y a b).reg = s.reg := by
  unfold State.raiseLimits
  split
  · rfl
  · simp
  · simp
  · exact inEitherOrder_field (·.reg) (fun _ => rfl) (fun _ => by simp) (fun _ => by simp) s
@[simp] theorem State.raiseLimits_vib (x y : Bool) (a b : Raise) : (s.raiseLimits x y a b).vib = s.vib := by
  unfold State.raiseLimits
  split
  · rfl
  · simp
  · simp
  · exact inEitherOrder_field (·.vib) (fun _ => rfl) (fun _ => by simp) (fun _ => by simp) s
@[simp] theorem State.raiseLimits_seq (x y : Bool) (a b : Raise) : (s.raiseLimits x y a b).seq = s.seq := by
  unfold State.raiseLimits
  split
  · rfl
  · simp
  · simp
  · exact inEitherOrder_field (·.seq) (fun _ => rfl) (fun _ => by simp) (fun _ => by simp) s
@[simp] theorem State.raiseLimits_tru (x y : Bool) (a b : Raise) : (s.raiseLimits x y a b).tru = s.tru := by
  unfold State.raiseLimits
  split
  · rfl
  · simp
  · simp
  · exact inEitherOrder_field (·.tru) (fun _ => rfl) (fun _ => by simp) (fun _ => by simp) s
@[simp] theorem State.raiseLimits_recorder (x y : Bool) (a b : Raise) : (s.raiseLimits x y a b).recorder = s.recorder := by
  unfold State.raiseLimits
  split
  · rfl
  · simp
  · simp
  · exact inEitherOrder_field (·.recorder) (fun _ => rfl) (fun _ => by simp) (fun _ => by simp) s
@[simp] theorem State.raiseLimits_rqh (x y : Bool) (a b : Raise) : (s.raiseLimits x y a b).rqh = s.rqh := by
  unfold State.raiseLimits
  split
  · rfl
  · simp
  · simp
  · exact inEitherOrder_field (·.rqh) (fun _ => rfl) (fun _ => by simp) (fun _ => by simp) s
@[simp] theorem State.splitEvent_pending (b : Bank) : (s.splitEvent b).pending = s.pending := by
  unfold State.splitEvent; simp only []; split <;> simp
@[simp] theorem State.splitEvent_intake (b : Bank) : (s.splitEvent b).intake = s.intake := by
  unfold State.splitEvent; simp only []; split <;> simp
@[simp] theorem State.splitEvent_vib (b : Bank) : (s.splitEvent b).vib = s.vib := by
  unfold State.splitEvent; simp only []; split <;> simp
@[simp] theorem State.splitEvent_active (b : Bank) : (s.splitEvent b).sched.active = s.sched.active := by
  unfold State.splitEvent; simp only []; split <;> simp
@[simp] theorem State.splitEvent_strap (b : Bank) : (s.splitEvent b).rp.strap = s.rp.strap := by
  unfold State.splitEvent; simp only []; split <;> simp
@[simp] theorem State.referenceEvent_pending : s.referenceEvent.pending = s.pending := by
  unfold State.referenceEvent; (repeat' split) <;> simp
@[simp] theorem State.referenceEvent_vib : s.referenceEvent.vib = s.vib := by
  unfold State.referenceEvent; (repeat' split) <;> simp
@[simp] theorem State.referenceEvent_active : s.referenceEvent.sched.active = s.sched.active := by
  unfold State.referenceEvent; (repeat' split) <;> simp
@[simp] theorem State.referenceEvent_strap : s.referenceEvent.rp.strap = s.rp.strap := by
  unfold State.referenceEvent; (repeat' split) <;> simp

/-! ## Armature Regulators (chapter 5) -/

@[simp] theorem State.produceEcho_pending : s.produceEcho.pending = s.pending := by
  simp [State.produceEcho]
@[simp] theorem State.produceEcho_draws : s.produceEcho.draws = s.draws := by
  simp [State.produceEcho]
@[simp] theorem State.produceEcho_intake : s.produceEcho.intake = s.intake := by
  simp [State.produceEcho]
@[simp] theorem State.produceEcho_sched : s.produceEcho.sched = s.sched := by
  simp [State.produceEcho]
@[simp] theorem State.produceEcho_split : s.produceEcho.split = s.split := by
  simp [State.produceEcho]
@[simp] theorem State.produceEcho_lim : s.produceEcho.lim = s.lim := by
  simp [State.produceEcho]
@[simp] theorem State.produceEcho_reg : s.produceEcho.reg = s.reg := by
  simp [State.produceEcho]
@[simp] theorem State.produceEcho_vib : s.produceEcho.vib = s.vib := by
  simp [State.produceEcho]
@[simp] theorem State.produceEcho_seq : s.produceEcho.seq = s.seq := by
  simp [State.produceEcho]
@[simp] theorem State.produceEcho_tru : s.produceEcho.tru = s.tru := by
  simp [State.produceEcho]
@[simp] theorem State.produceEcho_recorder : s.produceEcho.recorder = s.recorder := by
  simp [State.produceEcho]
@[simp] theorem State.produceEcho_rqh : s.produceEcho.rqh = s.rqh := by
  simp [State.produceEcho]
@[simp] theorem State.produceEcho_rpt : s.produceEcho.rpt = s.rpt := by
  simp [State.produceEcho]
@[simp] theorem State.produceEcho_strap : s.produceEcho.rp.strap = s.rp.strap := by
  simp [State.produceEcho]
@[simp] theorem State.testOvercurrent_pending (b : Bank) (m : Motor) : (s.testOvercurrent b m).pending = s.pending := by
  unfold State.testOvercurrent; simp only []; (repeat' split) <;> simp
@[simp] theorem State.testOvercurrent_intake (b : Bank) (m : Motor) : (s.testOvercurrent b m).intake = s.intake := by
  unfold State.testOvercurrent; simp only []; (repeat' split) <;> simp
@[simp] theorem State.testOvercurrent_split (b : Bank) (m : Motor) : (s.testOvercurrent b m).split = s.split := by
  unfold State.testOvercurrent; simp only []; (repeat' split) <;> simp
@[simp] theorem State.testOvercurrent_vib (b : Bank) (m : Motor) : (s.testOvercurrent b m).vib = s.vib := by
  unfold State.testOvercurrent; simp only []; (repeat' split) <;> simp
@[simp] theorem State.testOvercurrent_active (b : Bank) (m : Motor) : (s.testOvercurrent b m).sched.active = s.sched.active := by
  unfold State.testOvercurrent; simp only []; (repeat' split) <;> simp
@[simp] theorem State.testOvercurrent_strap (b : Bank) (m : Motor) : (s.testOvercurrent b m).rp.strap = s.rp.strap := by
  unfold State.testOvercurrent; simp only []; (repeat' split) <;> simp
@[simp] theorem State.testOvercurrent_motor (b : Bank) (m : Motor) : (s.testOvercurrent b m).lim.motor = s.lim.motor := by
  unfold State.testOvercurrent; simp only []; (repeat' split) <;> simp
@[simp] theorem State.reportRegulation_pending (m : Motor) : (s.reportRegulation m).pending = s.pending := by
  unfold State.reportRegulation; simp only []; (repeat' split) <;> simp
@[simp] theorem State.reportRegulation_draws (m : Motor) : (s.reportRegulation m).draws = s.draws := by
  unfold State.reportRegulation; simp only []; (repeat' split) <;> simp
@[simp] theorem State.reportRegulation_sched (m : Motor) : (s.reportRegulation m).sched = s.sched := by
  unfold State.reportRegulation; simp only []; (repeat' split) <;> simp
@[simp] theorem State.reportRegulation_split (m : Motor) : (s.reportRegulation m).split = s.split := by
  unfold State.reportRegulation; simp only []; (repeat' split) <;> simp
@[simp] theorem State.reportRegulation_lim (m : Motor) : (s.reportRegulation m).lim = s.lim := by
  unfold State.reportRegulation; simp only []; (repeat' split) <;> simp
@[simp] theorem State.reportRegulation_reg (m : Motor) : (s.reportRegulation m).reg = s.reg := by
  unfold State.reportRegulation; simp only []; (repeat' split) <;> simp
@[simp] theorem State.reportRegulation_vib (m : Motor) : (s.reportRegulation m).vib = s.vib := by
  unfold State.reportRegulation; simp only []; (repeat' split) <;> simp
@[simp] theorem State.reportRegulation_seq (m : Motor) : (s.reportRegulation m).seq = s.seq := by
  unfold State.reportRegulation; simp only []; (repeat' split) <;> simp
@[simp] theorem State.reportRegulation_tru (m : Motor) : (s.reportRegulation m).tru = s.tru := by
  unfold State.reportRegulation; simp only []; (repeat' split) <;> simp
@[simp] theorem State.reportRegulation_recorder (m : Motor) : (s.reportRegulation m).recorder = s.recorder := by
  unfold State.reportRegulation; simp only []; (repeat' split) <;> simp
@[simp] theorem State.reportRegulation_rqh (m : Motor) : (s.reportRegulation m).rqh = s.rqh := by
  unfold State.reportRegulation; simp only []; (repeat' split) <;> simp
@[simp] theorem State.reportRegulation_rpt (m : Motor) : (s.reportRegulation m).rpt = s.rpt := by
  unfold State.reportRegulation; simp only []; (repeat' split) <;> simp
@[simp] theorem State.reportRegulation_strap (m : Motor) : (s.reportRegulation m).rp.strap = s.rp.strap := by
  unfold State.reportRegulation; simp only []; (repeat' split) <;> simp
@[simp] theorem State.eventFrame_pending (m : Motor) (u : Int) (n : Nat) : (s.eventFrame m u n).pending = s.pending := by
  unfold State.eventFrame; (repeat' split) <;> simp
@[simp] theorem State.eventFrame_intake (m : Motor) (u : Int) (n : Nat) : (s.eventFrame m u n).intake = s.intake := by
  unfold State.eventFrame; (repeat' split) <;> simp
@[simp] theorem State.eventFrame_sched (m : Motor) (u : Int) (n : Nat) : (s.eventFrame m u n).sched = s.sched := by
  unfold State.eventFrame; (repeat' split) <;> simp
@[simp] theorem State.eventFrame_split (m : Motor) (u : Int) (n : Nat) : (s.eventFrame m u n).split = s.split := by
  unfold State.eventFrame; (repeat' split) <;> simp
@[simp] theorem State.eventFrame_lim (m : Motor) (u : Int) (n : Nat) : (s.eventFrame m u n).lim = s.lim := by
  unfold State.eventFrame; (repeat' split) <;> simp
@[simp] theorem State.eventFrame_reg (m : Motor) (u : Int) (n : Nat) : (s.eventFrame m u n).reg = s.reg := by
  unfold State.eventFrame; (repeat' split) <;> simp
@[simp] theorem State.eventFrame_vib (m : Motor) (u : Int) (n : Nat) : (s.eventFrame m u n).vib = s.vib := by
  unfold State.eventFrame; (repeat' split) <;> simp
@[simp] theorem State.eventFrame_seq (m : Motor) (u : Int) (n : Nat) : (s.eventFrame m u n).seq = s.seq := by
  unfold State.eventFrame; (repeat' split) <;> simp
@[simp] theorem State.eventFrame_tru (m : Motor) (u : Int) (n : Nat) : (s.eventFrame m u n).tru = s.tru := by
  unfold State.eventFrame; (repeat' split) <;> simp
@[simp] theorem State.eventFrame_recorder (m : Motor) (u : Int) (n : Nat) : (s.eventFrame m u n).recorder = s.recorder := by
  unfold State.eventFrame; (repeat' split) <;> simp
@[simp] theorem State.eventFrame_rqh (m : Motor) (u : Int) (n : Nat) : (s.eventFrame m u n).rqh = s.rqh := by
  unfold State.eventFrame; (repeat' split) <;> simp
@[simp] theorem State.eventFrame_rpt (m : Motor) (u : Int) (n : Nat) : (s.eventFrame m u n).rpt = s.rpt := by
  unfold State.eventFrame; (repeat' split) <;> simp
@[simp] theorem State.eventFrame_strap (m : Motor) (u : Int) (n : Nat) : (s.eventFrame m u n).rp.strap = s.rp.strap := by
  unfold State.eventFrame; (repeat' split) <;> simp
@[simp] theorem State.regulate_pending (b : Bank) (m : Motor) : (s.regulate b m).pending = s.pending := by
  unfold State.regulate; simp only []; split <;> simp
@[simp] theorem State.regulate_intake (b : Bank) (m : Motor) : (s.regulate b m).intake = s.intake := by
  unfold State.regulate; simp only []; split <;> simp
@[simp] theorem State.regulate_split (b : Bank) (m : Motor) : (s.regulate b m).split = s.split := by
  unfold State.regulate; simp only []; split <;> simp
@[simp] theorem State.regulate_vib (b : Bank) (m : Motor) : (s.regulate b m).vib = s.vib := by
  unfold State.regulate; simp only []; split <;> simp
@[simp] theorem State.regulate_active (b : Bank) (m : Motor) : (s.regulate b m).sched.active = s.sched.active := by
  unfold State.regulate; simp only []; split <;> simp
@[simp] theorem State.regulate_strap (b : Bank) (m : Motor) : (s.regulate b m).rp.strap = s.rp.strap := by
  unfold State.regulate; simp only []; split <;> simp
@[simp] theorem State.regulate_motor (b : Bank) (m : Motor) : (s.regulate b m).lim.motor = s.lim.motor := by
  unfold State.regulate; simp only []; split <;> simp
@[simp] theorem State.regulationEvent_pending (m : Motor) : (s.regulationEvent m).pending = s.pending := by
  unfold State.regulationEvent; (repeat' split) <;> simp
@[simp] theorem State.regulationEvent_split (m : Motor) : (s.regulationEvent m).split = s.split := by
  unfold State.regulationEvent; (repeat' split) <;> simp
@[simp] theorem State.regulationEvent_active (m : Motor) : (s.regulationEvent m).sched.active = s.sched.active := by
  unfold State.regulationEvent; (repeat' split) <;> simp
@[simp] theorem State.regulationEvent_strap (m : Motor) : (s.regulationEvent m).rp.strap = s.rp.strap := by
  unfold State.regulationEvent; (repeat' split) <;> simp
@[simp] theorem State.regulateIf_pending (p : Bool) (m : Motor) : (s.regulateIf p m).pending = s.pending := by
  unfold State.regulateIf; (repeat' split) <;> simp
@[simp] theorem State.regulateIf_split (p : Bool) (m : Motor) : (s.regulateIf p m).split = s.split := by
  unfold State.regulateIf; (repeat' split) <;> simp
@[simp] theorem State.regulateIf_active (p : Bool) (m : Motor) : (s.regulateIf p m).sched.active = s.sched.active := by
  unfold State.regulateIf; (repeat' split) <;> simp
@[simp] theorem State.regulateIf_strap (p : Bool) (m : Motor) : (s.regulateIf p m).rp.strap = s.rp.strap := by
  unfold State.regulateIf; (repeat' split) <;> simp
@[simp] theorem State.regulateDue_pending (p q : Bool) : (s.regulateDue p q).pending = s.pending := by
  unfold State.regulateDue
  split
  · exact inEitherOrder_field (·.pending) (fun _ => rfl) (fun _ => by simp) (fun _ => by simp) s
  · simp
@[simp] theorem State.regulateDue_split (p q : Bool) : (s.regulateDue p q).split = s.split := by
  unfold State.regulateDue
  split
  · exact inEitherOrder_field (·.split) (fun _ => rfl) (fun _ => by simp) (fun _ => by simp) s
  · simp
@[simp] theorem State.regulateDue_active (p q : Bool) : (s.regulateDue p q).sched.active = s.sched.active := by
  unfold State.regulateDue
  split
  · exact inEitherOrder_field (·.sched.active) (fun _ => rfl) (fun _ => by simp) (fun _ => by simp) s
  · simp
@[simp] theorem State.regulateDue_strap (p q : Bool) : (s.regulateDue p q).rp.strap = s.rp.strap := by
  unfold State.regulateDue
  split
  · exact inEitherOrder_field (·.rp.strap) (fun _ => rfl) (fun _ => by simp) (fun _ => by simp) s
  · simp
@[simp] theorem State.markDriveFrames_pending : s.markDriveFrames.pending = s.pending := by
  unfold State.markDriveFrames; (repeat' split) <;> simp
@[simp] theorem State.markDriveFrames_intake : s.markDriveFrames.intake = s.intake := by
  unfold State.markDriveFrames; (repeat' split) <;> simp
@[simp] theorem State.markDriveFrames_sched : s.markDriveFrames.sched = s.sched := by
  unfold State.markDriveFrames; (repeat' split) <;> simp
@[simp] theorem State.markDriveFrames_split : s.markDriveFrames.split = s.split := by
  unfold State.markDriveFrames; (repeat' split) <;> simp
@[simp] theorem State.markDriveFrames_lim : s.markDriveFrames.lim = s.lim := by
  unfold State.markDriveFrames; (repeat' split) <;> simp
@[simp] theorem State.markDriveFrames_reg : s.markDriveFrames.reg = s.reg := by
  unfold State.markDriveFrames; (repeat' split) <;> simp
@[simp] theorem State.markDriveFrames_vib : s.markDriveFrames.vib = s.vib := by
  unfold State.markDriveFrames; (repeat' split) <;> simp
@[simp] theorem State.markDriveFrames_seq : s.markDriveFrames.seq = s.seq := by
  unfold State.markDriveFrames; (repeat' split) <;> simp
@[simp] theorem State.markDriveFrames_tru : s.markDriveFrames.tru = s.tru := by
  unfold State.markDriveFrames; (repeat' split) <;> simp
@[simp] theorem State.markDriveFrames_recorder : s.markDriveFrames.recorder = s.recorder := by
  unfold State.markDriveFrames; (repeat' split) <;> simp
@[simp] theorem State.markDriveFrames_rqh : s.markDriveFrames.rqh = s.rqh := by
  unfold State.markDriveFrames; (repeat' split) <;> simp
@[simp] theorem State.markDriveFrames_rpt : s.markDriveFrames.rpt = s.rpt := by
  unfold State.markDriveFrames; (repeat' split) <;> simp
@[simp] theorem State.markDriveFrames_strap : s.markDriveFrames.rp.strap = s.rp.strap := by
  unfold State.markDriveFrames; (repeat' split) <;> simp

/-! ## Drive Sequencer (chapter 7) -/

@[simp] theorem State.raiseMarkLoss_pending : s.raiseMarkLoss.pending = s.pending := by
  unfold State.raiseMarkLoss; (repeat' split) <;> simp
@[simp] theorem State.raiseMarkLoss_intake : s.raiseMarkLoss.intake = s.intake := by
  unfold State.raiseMarkLoss; (repeat' split) <;> simp
@[simp] theorem State.raiseMarkLoss_split : s.raiseMarkLoss.split = s.split := by
  unfold State.raiseMarkLoss; (repeat' split) <;> simp
@[simp] theorem State.raiseMarkLoss_vib : s.raiseMarkLoss.vib = s.vib := by
  unfold State.raiseMarkLoss; (repeat' split) <;> simp
@[simp] theorem State.raiseMarkLoss_active : s.raiseMarkLoss.sched.active = s.sched.active := by
  unfold State.raiseMarkLoss; (repeat' split) <;> simp
@[simp] theorem State.raiseMarkLoss_strap : s.raiseMarkLoss.rp.strap = s.rp.strap := by
  unfold State.raiseMarkLoss; (repeat' split) <;> simp
@[simp] theorem State.raiseMarkLoss_motor : s.raiseMarkLoss.lim.motor = s.lim.motor := by
  unfold State.raiseMarkLoss; (repeat' split) <;> simp
@[simp] theorem State.startRun_pending : s.startRun.pending = s.pending := by
  unfold State.startRun; simp only []; split <;> simp
@[simp] theorem State.startRun_intake : s.startRun.intake = s.intake := by
  unfold State.startRun; simp only []; split <;> simp
@[simp] theorem State.startRun_vib : s.startRun.vib = s.vib := by
  unfold State.startRun; simp only []; split <;> simp
@[simp] theorem State.startRun_active : s.startRun.sched.active = s.sched.active := by
  unfold State.startRun; simp only []; split <;> simp
@[simp] theorem State.startRun_strap : s.startRun.rp.strap = s.rp.strap := by
  unfold State.startRun; simp only []; split <;> simp
@[simp] theorem State.startTurning_pending : s.startTurning.pending = s.pending := by
  unfold State.startTurning; simp
@[simp] theorem State.startTurning_intake : s.startTurning.intake = s.intake := by
  unfold State.startTurning; simp
@[simp] theorem State.startTurning_vib : s.startTurning.vib = s.vib := by
  unfold State.startTurning; simp
@[simp] theorem State.startTurning_active : s.startTurning.sched.active = s.sched.active := by
  unfold State.startTurning; simp
@[simp] theorem State.startTurning_strap : s.startTurning.rp.strap = s.rp.strap := by
  unfold State.startTurning; simp
@[simp] theorem State.enterStopping_pending : s.enterStopping.pending = s.pending := by
  simp [State.enterStopping]
@[simp] theorem State.enterStopping_draws : s.enterStopping.draws = s.draws := by
  simp [State.enterStopping]
@[simp] theorem State.enterStopping_rp : s.enterStopping.rp = s.rp := by
  simp [State.enterStopping]
@[simp] theorem State.enterStopping_intake : s.enterStopping.intake = s.intake := by
  simp [State.enterStopping]
@[simp] theorem State.enterStopping_sched : s.enterStopping.sched = s.sched := by
  simp [State.enterStopping]
@[simp] theorem State.enterStopping_split : s.enterStopping.split = s.split := by
  simp [State.enterStopping]
@[simp] theorem State.enterStopping_reg : s.enterStopping.reg = s.reg := by
  simp [State.enterStopping]
@[simp] theorem State.enterStopping_vib : s.enterStopping.vib = s.vib := by
  simp [State.enterStopping]
@[simp] theorem State.enterStopping_tru : s.enterStopping.tru = s.tru := by
  simp [State.enterStopping]
@[simp] theorem State.enterStopping_recorder : s.enterStopping.recorder = s.recorder := by
  simp [State.enterStopping]
@[simp] theorem State.enterStopping_rqh : s.enterStopping.rqh = s.rqh := by
  simp [State.enterStopping]
@[simp] theorem State.enterStopping_rpt : s.enterStopping.rpt = s.rpt := by
  simp [State.enterStopping]
@[simp] theorem State.startOverdue_pending : s.startOverdue.pending = s.pending := by
  unfold State.startOverdue; (repeat' split) <;> simp
@[simp] theorem State.startOverdue_draws : s.startOverdue.draws = s.draws := by
  unfold State.startOverdue; (repeat' split) <;> simp
@[simp] theorem State.startOverdue_rp : s.startOverdue.rp = s.rp := by
  unfold State.startOverdue; (repeat' split) <;> simp
@[simp] theorem State.startOverdue_intake : s.startOverdue.intake = s.intake := by
  unfold State.startOverdue; (repeat' split) <;> simp
@[simp] theorem State.startOverdue_sched : s.startOverdue.sched = s.sched := by
  unfold State.startOverdue; (repeat' split) <;> simp
@[simp] theorem State.startOverdue_split : s.startOverdue.split = s.split := by
  unfold State.startOverdue; (repeat' split) <;> simp
@[simp] theorem State.startOverdue_lim : s.startOverdue.lim = s.lim := by
  unfold State.startOverdue; (repeat' split) <;> simp
@[simp] theorem State.startOverdue_reg : s.startOverdue.reg = s.reg := by
  unfold State.startOverdue; (repeat' split) <;> simp
@[simp] theorem State.startOverdue_vib : s.startOverdue.vib = s.vib := by
  unfold State.startOverdue; (repeat' split) <;> simp
@[simp] theorem State.startOverdue_tru : s.startOverdue.tru = s.tru := by
  unfold State.startOverdue; (repeat' split) <;> simp
@[simp] theorem State.startOverdue_recorder : s.startOverdue.recorder = s.recorder := by
  unfold State.startOverdue; (repeat' split) <;> simp
@[simp] theorem State.startOverdue_rqh : s.startOverdue.rqh = s.rqh := by
  unfold State.startOverdue; (repeat' split) <;> simp
@[simp] theorem State.startOverdue_rpt : s.startOverdue.rpt = s.rpt := by
  unfold State.startOverdue; (repeat' split) <;> simp
@[simp] theorem State.makeTurnDue_pending : s.makeTurnDue.pending = s.pending := by
  simp [State.makeTurnDue]
@[simp] theorem State.makeTurnDue_draws : s.makeTurnDue.draws = s.draws := by
  simp [State.makeTurnDue]
@[simp] theorem State.makeTurnDue_rp : s.makeTurnDue.rp = s.rp := by
  simp [State.makeTurnDue]
@[simp] theorem State.makeTurnDue_intake : s.makeTurnDue.intake = s.intake := by
  simp [State.makeTurnDue]
@[simp] theorem State.makeTurnDue_sched : s.makeTurnDue.sched = s.sched := by
  simp [State.makeTurnDue]
@[simp] theorem State.makeTurnDue_split : s.makeTurnDue.split = s.split := by
  simp [State.makeTurnDue]
@[simp] theorem State.makeTurnDue_lim : s.makeTurnDue.lim = s.lim := by
  simp [State.makeTurnDue]
@[simp] theorem State.makeTurnDue_reg : s.makeTurnDue.reg = s.reg := by
  simp [State.makeTurnDue]
@[simp] theorem State.makeTurnDue_vib : s.makeTurnDue.vib = s.vib := by
  simp [State.makeTurnDue]
@[simp] theorem State.makeTurnDue_tru : s.makeTurnDue.tru = s.tru := by
  simp [State.makeTurnDue]
@[simp] theorem State.makeTurnDue_recorder : s.makeTurnDue.recorder = s.recorder := by
  simp [State.makeTurnDue]
@[simp] theorem State.makeTurnDue_rqh : s.makeTurnDue.rqh = s.rqh := by
  simp [State.makeTurnDue]
@[simp] theorem State.judgeTakeover_pending : s.judgeTakeover.pending = s.pending := by
  unfold State.judgeTakeover; (repeat' split) <;> simp
@[simp] theorem State.judgeTakeover_draws : s.judgeTakeover.draws = s.draws := by
  unfold State.judgeTakeover; (repeat' split) <;> simp
@[simp] theorem State.judgeTakeover_rp : s.judgeTakeover.rp = s.rp := by
  unfold State.judgeTakeover; (repeat' split) <;> simp
@[simp] theorem State.judgeTakeover_intake : s.judgeTakeover.intake = s.intake := by
  unfold State.judgeTakeover; (repeat' split) <;> simp
@[simp] theorem State.judgeTakeover_sched : s.judgeTakeover.sched = s.sched := by
  unfold State.judgeTakeover; (repeat' split) <;> simp
@[simp] theorem State.judgeTakeover_split : s.judgeTakeover.split = s.split := by
  unfold State.judgeTakeover; (repeat' split) <;> simp
@[simp] theorem State.judgeTakeover_lim : s.judgeTakeover.lim = s.lim := by
  unfold State.judgeTakeover; (repeat' split) <;> simp
@[simp] theorem State.judgeTakeover_reg : s.judgeTakeover.reg = s.reg := by
  unfold State.judgeTakeover; (repeat' split) <;> simp
@[simp] theorem State.judgeTakeover_vib : s.judgeTakeover.vib = s.vib := by
  unfold State.judgeTakeover; (repeat' split) <;> simp
@[simp] theorem State.judgeTakeover_tru : s.judgeTakeover.tru = s.tru := by
  unfold State.judgeTakeover; (repeat' split) <;> simp
@[simp] theorem State.judgeTakeover_recorder : s.judgeTakeover.recorder = s.recorder := by
  unfold State.judgeTakeover; (repeat' split) <;> simp
@[simp] theorem State.judgeTakeover_rqh : s.judgeTakeover.rqh = s.rqh := by
  unfold State.judgeTakeover; (repeat' split) <;> simp
@[simp] theorem State.judgeTakeover_rpt : s.judgeTakeover.rpt = s.rpt := by
  unfold State.judgeTakeover; (repeat' split) <;> simp
@[simp] theorem State.takeTakeover_pending : s.takeTakeover.pending = s.pending := by
  unfold State.takeTakeover; (repeat' split) <;> simp
@[simp] theorem State.takeTakeover_draws : s.takeTakeover.draws = s.draws := by
  unfold State.takeTakeover; (repeat' split) <;> simp
@[simp] theorem State.takeTakeover_rp : s.takeTakeover.rp = s.rp := by
  unfold State.takeTakeover; (repeat' split) <;> simp
@[simp] theorem State.takeTakeover_intake : s.takeTakeover.intake = s.intake := by
  unfold State.takeTakeover; (repeat' split) <;> simp
@[simp] theorem State.takeTakeover_sched : s.takeTakeover.sched = s.sched := by
  unfold State.takeTakeover; (repeat' split) <;> simp
@[simp] theorem State.takeTakeover_split : s.takeTakeover.split = s.split := by
  unfold State.takeTakeover; (repeat' split) <;> simp
@[simp] theorem State.takeTakeover_lim : s.takeTakeover.lim = s.lim := by
  unfold State.takeTakeover; (repeat' split) <;> simp
@[simp] theorem State.takeTakeover_reg : s.takeTakeover.reg = s.reg := by
  unfold State.takeTakeover; (repeat' split) <;> simp
@[simp] theorem State.takeTakeover_vib : s.takeTakeover.vib = s.vib := by
  unfold State.takeTakeover; (repeat' split) <;> simp
@[simp] theorem State.takeTakeover_tru : s.takeTakeover.tru = s.tru := by
  unfold State.takeTakeover; (repeat' split) <;> simp
@[simp] theorem State.takeTakeover_recorder : s.takeTakeover.recorder = s.recorder := by
  unfold State.takeTakeover; (repeat' split) <;> simp
@[simp] theorem State.takeTakeover_rqh : s.takeTakeover.rqh = s.rqh := by
  unfold State.takeTakeover; (repeat' split) <;> simp
@[simp] theorem State.takeTakeover_rpt : s.takeTakeover.rpt = s.rpt := by
  unfold State.takeTakeover; (repeat' split) <;> simp
@[simp] theorem State.answerRecall_pending : s.answerRecall.pending = s.pending := by
  unfold State.answerRecall; (repeat' split) <;> simp
@[simp] theorem State.answerRecall_draws : s.answerRecall.draws = s.draws := by
  unfold State.answerRecall; (repeat' split) <;> simp
@[simp] theorem State.answerRecall_rp : s.answerRecall.rp = s.rp := by
  unfold State.answerRecall; (repeat' split) <;> simp
@[simp] theorem State.answerRecall_intake : s.answerRecall.intake = s.intake := by
  unfold State.answerRecall; (repeat' split) <;> simp
@[simp] theorem State.answerRecall_sched : s.answerRecall.sched = s.sched := by
  unfold State.answerRecall; (repeat' split) <;> simp
@[simp] theorem State.answerRecall_split : s.answerRecall.split = s.split := by
  unfold State.answerRecall; (repeat' split) <;> simp
@[simp] theorem State.answerRecall_lim : s.answerRecall.lim = s.lim := by
  unfold State.answerRecall; (repeat' split) <;> simp
@[simp] theorem State.answerRecall_reg : s.answerRecall.reg = s.reg := by
  unfold State.answerRecall; (repeat' split) <;> simp
@[simp] theorem State.answerRecall_vib : s.answerRecall.vib = s.vib := by
  unfold State.answerRecall; (repeat' split) <;> simp
@[simp] theorem State.answerRecall_tru : s.answerRecall.tru = s.tru := by
  unfold State.answerRecall; (repeat' split) <;> simp
@[simp] theorem State.answerRecall_recorder : s.answerRecall.recorder = s.recorder := by
  unfold State.answerRecall; (repeat' split) <;> simp
@[simp] theorem State.answerRecall_rqh : s.answerRecall.rqh = s.rqh := by
  unfold State.answerRecall; (repeat' split) <;> simp
@[simp] theorem State.takeBack_pending : s.takeBack.pending = s.pending := by
  unfold State.takeBack; (repeat' split) <;> simp
@[simp] theorem State.takeBack_draws : s.takeBack.draws = s.draws := by
  unfold State.takeBack; (repeat' split) <;> simp
@[simp] theorem State.takeBack_rp : s.takeBack.rp = s.rp := by
  unfold State.takeBack; (repeat' split) <;> simp
@[simp] theorem State.takeBack_intake : s.takeBack.intake = s.intake := by
  unfold State.takeBack; (repeat' split) <;> simp
@[simp] theorem State.takeBack_sched : s.takeBack.sched = s.sched := by
  unfold State.takeBack; (repeat' split) <;> simp
@[simp] theorem State.takeBack_split : s.takeBack.split = s.split := by
  unfold State.takeBack; (repeat' split) <;> simp
@[simp] theorem State.takeBack_lim : s.takeBack.lim = s.lim := by
  unfold State.takeBack; (repeat' split) <;> simp
@[simp] theorem State.takeBack_reg : s.takeBack.reg = s.reg := by
  unfold State.takeBack; (repeat' split) <;> simp
@[simp] theorem State.takeBack_vib : s.takeBack.vib = s.vib := by
  unfold State.takeBack; (repeat' split) <;> simp
@[simp] theorem State.takeBack_tru : s.takeBack.tru = s.tru := by
  unfold State.takeBack; (repeat' split) <;> simp
@[simp] theorem State.takeBack_recorder : s.takeBack.recorder = s.recorder := by
  unfold State.takeBack; (repeat' split) <;> simp
@[simp] theorem State.takeBack_rqh : s.takeBack.rqh = s.rqh := by
  unfold State.takeBack; (repeat' split) <;> simp
@[simp] theorem State.takeBack_rpt : s.takeBack.rpt = s.rpt := by
  unfold State.takeBack; (repeat' split) <;> simp
@[simp] theorem State.takeReturn_pending : s.takeReturn.pending = s.pending := by
  unfold State.takeReturn; (repeat' split) <;> simp
@[simp] theorem State.takeReturn_draws : s.takeReturn.draws = s.draws := by
  unfold State.takeReturn; (repeat' split) <;> simp
@[simp] theorem State.takeReturn_rp : s.takeReturn.rp = s.rp := by
  unfold State.takeReturn; (repeat' split) <;> simp
@[simp] theorem State.takeReturn_intake : s.takeReturn.intake = s.intake := by
  unfold State.takeReturn; (repeat' split) <;> simp
@[simp] theorem State.takeReturn_sched : s.takeReturn.sched = s.sched := by
  unfold State.takeReturn; (repeat' split) <;> simp
@[simp] theorem State.takeReturn_split : s.takeReturn.split = s.split := by
  unfold State.takeReturn; (repeat' split) <;> simp
@[simp] theorem State.takeReturn_lim : s.takeReturn.lim = s.lim := by
  unfold State.takeReturn; (repeat' split) <;> simp
@[simp] theorem State.takeReturn_reg : s.takeReturn.reg = s.reg := by
  unfold State.takeReturn; (repeat' split) <;> simp
@[simp] theorem State.takeReturn_vib : s.takeReturn.vib = s.vib := by
  unfold State.takeReturn; (repeat' split) <;> simp
@[simp] theorem State.takeReturn_tru : s.takeReturn.tru = s.tru := by
  unfold State.takeReturn; (repeat' split) <;> simp
@[simp] theorem State.takeReturn_recorder : s.takeReturn.recorder = s.recorder := by
  unfold State.takeReturn; (repeat' split) <;> simp
@[simp] theorem State.takeReturn_rqh : s.takeReturn.rqh = s.rqh := by
  unfold State.takeReturn; (repeat' split) <;> simp
@[simp] theorem State.loadRecallTimer_pending : s.loadRecallTimer.pending = s.pending := by
  unfold State.loadRecallTimer; (repeat' split) <;> simp
@[simp] theorem State.loadRecallTimer_draws : s.loadRecallTimer.draws = s.draws := by
  unfold State.loadRecallTimer; (repeat' split) <;> simp
@[simp] theorem State.loadRecallTimer_rp : s.loadRecallTimer.rp = s.rp := by
  unfold State.loadRecallTimer; (repeat' split) <;> simp
@[simp] theorem State.loadRecallTimer_intake : s.loadRecallTimer.intake = s.intake := by
  unfold State.loadRecallTimer; (repeat' split) <;> simp
@[simp] theorem State.loadRecallTimer_sched : s.loadRecallTimer.sched = s.sched := by
  unfold State.loadRecallTimer; (repeat' split) <;> simp
@[simp] theorem State.loadRecallTimer_split : s.loadRecallTimer.split = s.split := by
  unfold State.loadRecallTimer; (repeat' split) <;> simp
@[simp] theorem State.loadRecallTimer_lim : s.loadRecallTimer.lim = s.lim := by
  unfold State.loadRecallTimer; (repeat' split) <;> simp
@[simp] theorem State.loadRecallTimer_reg : s.loadRecallTimer.reg = s.reg := by
  unfold State.loadRecallTimer; (repeat' split) <;> simp
@[simp] theorem State.loadRecallTimer_vib : s.loadRecallTimer.vib = s.vib := by
  unfold State.loadRecallTimer; (repeat' split) <;> simp
@[simp] theorem State.loadRecallTimer_tru : s.loadRecallTimer.tru = s.tru := by
  unfold State.loadRecallTimer; (repeat' split) <;> simp
@[simp] theorem State.loadRecallTimer_recorder : s.loadRecallTimer.recorder = s.recorder := by
  unfold State.loadRecallTimer; (repeat' split) <;> simp
@[simp] theorem State.loadRecallTimer_rqh : s.loadRecallTimer.rqh = s.rqh := by
  unfold State.loadRecallTimer; (repeat' split) <;> simp
@[simp] theorem State.loadRecallTimer_rpt : s.loadRecallTimer.rpt = s.rpt := by
  unfold State.loadRecallTimer; (repeat' split) <;> simp
@[simp] theorem State.recallGear_pending : s.recallGear.pending = s.pending := by
  unfold State.recallGear; (repeat' split) <;> simp
@[simp] theorem State.recallGear_draws : s.recallGear.draws = s.draws := by
  unfold State.recallGear; (repeat' split) <;> simp
@[simp] theorem State.recallGear_rp : s.recallGear.rp = s.rp := by
  unfold State.recallGear; (repeat' split) <;> simp
@[simp] theorem State.recallGear_intake : s.recallGear.intake = s.intake := by
  unfold State.recallGear; (repeat' split) <;> simp
@[simp] theorem State.recallGear_sched : s.recallGear.sched = s.sched := by
  unfold State.recallGear; (repeat' split) <;> simp
@[simp] theorem State.recallGear_split : s.recallGear.split = s.split := by
  unfold State.recallGear; (repeat' split) <;> simp
@[simp] theorem State.recallGear_lim : s.recallGear.lim = s.lim := by
  unfold State.recallGear; (repeat' split) <;> simp
@[simp] theorem State.recallGear_reg : s.recallGear.reg = s.reg := by
  unfold State.recallGear; (repeat' split) <;> simp
@[simp] theorem State.recallGear_vib : s.recallGear.vib = s.vib := by
  unfold State.recallGear; (repeat' split) <;> simp
@[simp] theorem State.recallGear_tru : s.recallGear.tru = s.tru := by
  unfold State.recallGear; (repeat' split) <;> simp
@[simp] theorem State.recallGear_recorder : s.recallGear.recorder = s.recorder := by
  unfold State.recallGear; (repeat' split) <;> simp
@[simp] theorem State.recallGear_rqh : s.recallGear.rqh = s.rqh := by
  unfold State.recallGear; (repeat' split) <;> simp
@[simp] theorem State.recallGear_rpt : s.recallGear.rpt = s.rpt := by
  unfold State.recallGear; (repeat' split) <;> simp
@[simp] theorem State.turnTimerExpires_pending : s.turnTimerExpires.pending = s.pending := by
  unfold State.turnTimerExpires; (repeat' split) <;> simp
@[simp] theorem State.turnTimerExpires_draws : s.turnTimerExpires.draws = s.draws := by
  unfold State.turnTimerExpires; (repeat' split) <;> simp
@[simp] theorem State.turnTimerExpires_rp : s.turnTimerExpires.rp = s.rp := by
  unfold State.turnTimerExpires; (repeat' split) <;> simp
@[simp] theorem State.turnTimerExpires_intake : s.turnTimerExpires.intake = s.intake := by
  unfold State.turnTimerExpires; (repeat' split) <;> simp
@[simp] theorem State.turnTimerExpires_sched : s.turnTimerExpires.sched = s.sched := by
  unfold State.turnTimerExpires; (repeat' split) <;> simp
@[simp] theorem State.turnTimerExpires_split : s.turnTimerExpires.split = s.split := by
  unfold State.turnTimerExpires; (repeat' split) <;> simp
@[simp] theorem State.turnTimerExpires_lim : s.turnTimerExpires.lim = s.lim := by
  unfold State.turnTimerExpires; (repeat' split) <;> simp
@[simp] theorem State.turnTimerExpires_reg : s.turnTimerExpires.reg = s.reg := by
  unfold State.turnTimerExpires; (repeat' split) <;> simp
@[simp] theorem State.turnTimerExpires_vib : s.turnTimerExpires.vib = s.vib := by
  unfold State.turnTimerExpires; (repeat' split) <;> simp
@[simp] theorem State.turnTimerExpires_tru : s.turnTimerExpires.tru = s.tru := by
  unfold State.turnTimerExpires; (repeat' split) <;> simp
@[simp] theorem State.turnTimerExpires_recorder : s.turnTimerExpires.recorder = s.recorder := by
  unfold State.turnTimerExpires; (repeat' split) <;> simp
@[simp] theorem State.turnTimerExpires_rqh : s.turnTimerExpires.rqh = s.rqh := by
  unfold State.turnTimerExpires; (repeat' split) <;> simp
@[simp] theorem State.overdueTimerExpires_pending : s.overdueTimerExpires.pending = s.pending := by
  unfold State.overdueTimerExpires; (repeat' split) <;> simp
@[simp] theorem State.overdueTimerExpires_draws : s.overdueTimerExpires.draws = s.draws := by
  unfold State.overdueTimerExpires; (repeat' split) <;> simp
@[simp] theorem State.overdueTimerExpires_rp : s.overdueTimerExpires.rp = s.rp := by
  unfold State.overdueTimerExpires; (repeat' split) <;> simp
@[simp] theorem State.overdueTimerExpires_intake : s.overdueTimerExpires.intake = s.intake := by
  unfold State.overdueTimerExpires; (repeat' split) <;> simp
@[simp] theorem State.overdueTimerExpires_sched : s.overdueTimerExpires.sched = s.sched := by
  unfold State.overdueTimerExpires; (repeat' split) <;> simp
@[simp] theorem State.overdueTimerExpires_split : s.overdueTimerExpires.split = s.split := by
  unfold State.overdueTimerExpires; (repeat' split) <;> simp
@[simp] theorem State.overdueTimerExpires_lim : s.overdueTimerExpires.lim = s.lim := by
  unfold State.overdueTimerExpires; (repeat' split) <;> simp
@[simp] theorem State.overdueTimerExpires_reg : s.overdueTimerExpires.reg = s.reg := by
  unfold State.overdueTimerExpires; (repeat' split) <;> simp
@[simp] theorem State.overdueTimerExpires_vib : s.overdueTimerExpires.vib = s.vib := by
  unfold State.overdueTimerExpires; (repeat' split) <;> simp
@[simp] theorem State.overdueTimerExpires_tru : s.overdueTimerExpires.tru = s.tru := by
  unfold State.overdueTimerExpires; (repeat' split) <;> simp
@[simp] theorem State.overdueTimerExpires_recorder : s.overdueTimerExpires.recorder = s.recorder := by
  unfold State.overdueTimerExpires; (repeat' split) <;> simp
@[simp] theorem State.overdueTimerExpires_rqh : s.overdueTimerExpires.rqh = s.rqh := by
  unfold State.overdueTimerExpires; (repeat' split) <;> simp
@[simp] theorem State.recallTimerExpires_pending : s.recallTimerExpires.pending = s.pending := by
  unfold State.recallTimerExpires; (repeat' split) <;> simp
@[simp] theorem State.recallTimerExpires_draws : s.recallTimerExpires.draws = s.draws := by
  unfold State.recallTimerExpires; (repeat' split) <;> simp
@[simp] theorem State.recallTimerExpires_rp : s.recallTimerExpires.rp = s.rp := by
  unfold State.recallTimerExpires; (repeat' split) <;> simp
@[simp] theorem State.recallTimerExpires_intake : s.recallTimerExpires.intake = s.intake := by
  unfold State.recallTimerExpires; (repeat' split) <;> simp
@[simp] theorem State.recallTimerExpires_sched : s.recallTimerExpires.sched = s.sched := by
  unfold State.recallTimerExpires; (repeat' split) <;> simp
@[simp] theorem State.recallTimerExpires_split : s.recallTimerExpires.split = s.split := by
  unfold State.recallTimerExpires; (repeat' split) <;> simp
@[simp] theorem State.recallTimerExpires_lim : s.recallTimerExpires.lim = s.lim := by
  unfold State.recallTimerExpires; (repeat' split) <;> simp
@[simp] theorem State.recallTimerExpires_reg : s.recallTimerExpires.reg = s.reg := by
  unfold State.recallTimerExpires; (repeat' split) <;> simp
@[simp] theorem State.recallTimerExpires_vib : s.recallTimerExpires.vib = s.vib := by
  unfold State.recallTimerExpires; (repeat' split) <;> simp
@[simp] theorem State.recallTimerExpires_tru : s.recallTimerExpires.tru = s.tru := by
  unfold State.recallTimerExpires; (repeat' split) <;> simp
@[simp] theorem State.recallTimerExpires_recorder : s.recallTimerExpires.recorder = s.recorder := by
  unfold State.recallTimerExpires; (repeat' split) <;> simp
@[simp] theorem State.recallTimerExpires_rqh : s.recallTimerExpires.rqh = s.rqh := by
  unfold State.recallTimerExpires; (repeat' split) <;> simp
@[simp] theorem State.sendAux_pending : s.sendAux.pending = s.pending := by
  unfold State.sendAux; (repeat' split) <;> simp
@[simp] theorem State.sendAux_draws : s.sendAux.draws = s.draws := by
  unfold State.sendAux; (repeat' split) <;> simp
@[simp] theorem State.sendAux_intake : s.sendAux.intake = s.intake := by
  unfold State.sendAux; (repeat' split) <;> simp
@[simp] theorem State.sendAux_sched : s.sendAux.sched = s.sched := by
  unfold State.sendAux; (repeat' split) <;> simp
@[simp] theorem State.sendAux_split : s.sendAux.split = s.split := by
  unfold State.sendAux; (repeat' split) <;> simp
@[simp] theorem State.sendAux_lim : s.sendAux.lim = s.lim := by
  unfold State.sendAux; (repeat' split) <;> simp
@[simp] theorem State.sendAux_reg : s.sendAux.reg = s.reg := by
  unfold State.sendAux; (repeat' split) <;> simp
@[simp] theorem State.sendAux_vib : s.sendAux.vib = s.vib := by
  unfold State.sendAux; (repeat' split) <;> simp
@[simp] theorem State.sendAux_tru : s.sendAux.tru = s.tru := by
  unfold State.sendAux; (repeat' split) <;> simp
@[simp] theorem State.sendAux_recorder : s.sendAux.recorder = s.recorder := by
  unfold State.sendAux; (repeat' split) <;> simp
@[simp] theorem State.sendAux_rqh : s.sendAux.rqh = s.rqh := by
  unfold State.sendAux; (repeat' split) <;> simp
@[simp] theorem State.sendAux_rpt : s.sendAux.rpt = s.rpt := by
  unfold State.sendAux; (repeat' split) <;> simp
@[simp] theorem State.sendAux_strap : s.sendAux.rp.strap = s.rp.strap := by
  unfold State.sendAux; (repeat' split) <;> simp
@[simp] theorem State.completeTurn_pending (b : Bank) : (s.completeTurn b).pending = s.pending := by
  simp [State.completeTurn]
@[simp] theorem State.completeTurn_intake (b : Bank) : (s.completeTurn b).intake = s.intake := by
  simp [State.completeTurn]
@[simp] theorem State.completeTurn_split (b : Bank) : (s.completeTurn b).split = s.split := by
  simp [State.completeTurn]
@[simp] theorem State.completeTurn_vib (b : Bank) : (s.completeTurn b).vib = s.vib := by
  simp [State.completeTurn]
@[simp] theorem State.completeTurn_active (b : Bank) : (s.completeTurn b).sched.active = s.sched.active := by
  simp [State.completeTurn]
@[simp] theorem State.completeTurn_strap (b : Bank) : (s.completeTurn b).rp.strap = s.rp.strap := by
  simp [State.completeTurn]
@[simp] theorem State.confirmStop_pending : s.confirmStop.pending = s.pending := by
  unfold State.confirmStop; simp only []; split <;> simp
@[simp] theorem State.confirmStop_intake : s.confirmStop.intake = s.intake := by
  unfold State.confirmStop; simp only []; split <;> simp
@[simp] theorem State.confirmStop_sched : s.confirmStop.sched = s.sched := by
  unfold State.confirmStop; simp only []; split <;> simp
@[simp] theorem State.confirmStop_split : s.confirmStop.split = s.split := by
  unfold State.confirmStop; simp only []; split <;> simp
@[simp] theorem State.confirmStop_lim : s.confirmStop.lim = s.lim := by
  unfold State.confirmStop; simp only []; split <;> simp
@[simp] theorem State.confirmStop_tru : s.confirmStop.tru = s.tru := by
  unfold State.confirmStop; simp only []; split <;> simp
@[simp] theorem State.confirmStop_recorder : s.confirmStop.recorder = s.recorder := by
  unfold State.confirmStop; simp only []; split <;> simp
@[simp] theorem State.confirmStop_rqh : s.confirmStop.rqh = s.rqh := by
  unfold State.confirmStop; simp only []; split <;> simp
@[simp] theorem State.confirmStop_rpt : s.confirmStop.rpt = s.rpt := by
  unfold State.confirmStop; simp only []; split <;> simp
@[simp] theorem State.confirmStop_strap : s.confirmStop.rp.strap = s.rp.strap := by
  unfold State.confirmStop; simp only []; split <;> simp
@[simp] theorem State.countStop_pending (b : Bank) (v : Int) : (s.countStop b v).pending = s.pending := by
  unfold State.countStop; simp only []; (repeat' split) <;> simp
@[simp] theorem State.countStop_intake (b : Bank) (v : Int) : (s.countStop b v).intake = s.intake := by
  unfold State.countStop; simp only []; (repeat' split) <;> simp
@[simp] theorem State.countStop_sched (b : Bank) (v : Int) : (s.countStop b v).sched = s.sched := by
  unfold State.countStop; simp only []; (repeat' split) <;> simp
@[simp] theorem State.countStop_split (b : Bank) (v : Int) : (s.countStop b v).split = s.split := by
  unfold State.countStop; simp only []; (repeat' split) <;> simp
@[simp] theorem State.countStop_lim (b : Bank) (v : Int) : (s.countStop b v).lim = s.lim := by
  unfold State.countStop; simp only []; (repeat' split) <;> simp
@[simp] theorem State.countStop_tru (b : Bank) (v : Int) : (s.countStop b v).tru = s.tru := by
  unfold State.countStop; simp only []; (repeat' split) <;> simp
@[simp] theorem State.countStop_recorder (b : Bank) (v : Int) : (s.countStop b v).recorder = s.recorder := by
  unfold State.countStop; simp only []; (repeat' split) <;> simp
@[simp] theorem State.countStop_rqh (b : Bank) (v : Int) : (s.countStop b v).rqh = s.rqh := by
  unfold State.countStop; simp only []; (repeat' split) <;> simp
@[simp] theorem State.countStop_rpt (b : Bank) (v : Int) : (s.countStop b v).rpt = s.rpt := by
  unfold State.countStop; simp only []; (repeat' split) <;> simp
@[simp] theorem State.countStop_strap (b : Bank) (v : Int) : (s.countStop b v).rp.strap = s.rp.strap := by
  unfold State.countStop; simp only []; (repeat' split) <;> simp
@[simp] theorem State.sequenceSample_pending (b : Bank) (v : Int) (n : Nat) : (s.sequenceSample b v n).pending = s.pending := by
  unfold State.sequenceSample; simp only []; (repeat' split) <;> simp
@[simp] theorem State.sequenceSample_intake (b : Bank) (v : Int) (n : Nat) : (s.sequenceSample b v n).intake = s.intake := by
  unfold State.sequenceSample; simp only []; (repeat' split) <;> simp
@[simp] theorem State.sequenceSample_split (b : Bank) (v : Int) (n : Nat) : (s.sequenceSample b v n).split = s.split := by
  unfold State.sequenceSample; simp only []; (repeat' split) <;> simp
@[simp] theorem State.sequenceSample_active (b : Bank) (v : Int) (n : Nat) : (s.sequenceSample b v n).sched.active = s.sched.active := by
  unfold State.sequenceSample; simp only []; (repeat' split) <;> simp
@[simp] theorem State.sequenceSample_strap (b : Bank) (v : Int) (n : Nat) : (s.sequenceSample b v n).rp.strap = s.rp.strap := by
  unfold State.sequenceSample; simp only []; (repeat' split) <;> simp

/-! ## Schedule Store (chapter 2) -/

@[simp] theorem State.swap_pending : s.swap.pending = s.pending := by
  unfold State.swap; (repeat' split) <;> simp
@[simp] theorem State.swap_draws : s.swap.draws = s.draws := by
  unfold State.swap; (repeat' split) <;> simp
@[simp] theorem State.swap_rp : s.swap.rp = s.rp := by
  unfold State.swap; (repeat' split) <;> simp
@[simp] theorem State.swap_intake : s.swap.intake = s.intake := by
  unfold State.swap; (repeat' split) <;> simp
@[simp] theorem State.swap_lim : s.swap.lim = s.lim := by
  unfold State.swap; (repeat' split) <;> simp
@[simp] theorem State.swap_seq : s.swap.seq = s.seq := by
  unfold State.swap; (repeat' split) <;> simp
@[simp] theorem State.swap_tru : s.swap.tru = s.tru := by
  unfold State.swap; (repeat' split) <;> simp
@[simp] theorem State.swap_recorder : s.swap.recorder = s.recorder := by
  unfold State.swap; (repeat' split) <;> simp
@[simp] theorem State.swap_rqh : s.swap.rqh = s.rqh := by
  unfold State.swap; (repeat' split) <;> simp
@[simp] theorem State.pendingSwap_pending : s.pendingSwap.pending = s.pending := by
  unfold State.pendingSwap; (repeat' split) <;> simp
@[simp] theorem State.pendingSwap_draws : s.pendingSwap.draws = s.draws := by
  unfold State.pendingSwap; (repeat' split) <;> simp
@[simp] theorem State.pendingSwap_rp : s.pendingSwap.rp = s.rp := by
  unfold State.pendingSwap; (repeat' split) <;> simp
@[simp] theorem State.pendingSwap_intake : s.pendingSwap.intake = s.intake := by
  unfold State.pendingSwap; (repeat' split) <;> simp
@[simp] theorem State.pendingSwap_lim : s.pendingSwap.lim = s.lim := by
  unfold State.pendingSwap; (repeat' split) <;> simp
@[simp] theorem State.pendingSwap_seq : s.pendingSwap.seq = s.seq := by
  unfold State.pendingSwap; (repeat' split) <;> simp
@[simp] theorem State.pendingSwap_tru : s.pendingSwap.tru = s.tru := by
  unfold State.pendingSwap; (repeat' split) <;> simp
@[simp] theorem State.pendingSwap_recorder : s.pendingSwap.recorder = s.recorder := by
  unfold State.pendingSwap; (repeat' split) <;> simp

/-! ## Recorder (chapter 9) -/

@[simp] theorem State.appendToCapture_pending (p : Snapshot) (n : Nat) : (s.appendToCapture p n).pending = s.pending := by
  unfold State.appendToCapture; simp only []; (repeat' split) <;> simp
@[simp] theorem State.appendToCapture_draws (p : Snapshot) (n : Nat) : (s.appendToCapture p n).draws = s.draws := by
  unfold State.appendToCapture; simp only []; (repeat' split) <;> simp
@[simp] theorem State.appendToCapture_rp (p : Snapshot) (n : Nat) : (s.appendToCapture p n).rp = s.rp := by
  unfold State.appendToCapture; simp only []; (repeat' split) <;> simp
@[simp] theorem State.appendToCapture_intake (p : Snapshot) (n : Nat) : (s.appendToCapture p n).intake = s.intake := by
  unfold State.appendToCapture; simp only []; (repeat' split) <;> simp
@[simp] theorem State.appendToCapture_sched (p : Snapshot) (n : Nat) : (s.appendToCapture p n).sched = s.sched := by
  unfold State.appendToCapture; simp only []; (repeat' split) <;> simp
@[simp] theorem State.appendToCapture_split (p : Snapshot) (n : Nat) : (s.appendToCapture p n).split = s.split := by
  unfold State.appendToCapture; simp only []; (repeat' split) <;> simp
@[simp] theorem State.appendToCapture_lim (p : Snapshot) (n : Nat) : (s.appendToCapture p n).lim = s.lim := by
  unfold State.appendToCapture; simp only []; (repeat' split) <;> simp
@[simp] theorem State.appendToCapture_reg (p : Snapshot) (n : Nat) : (s.appendToCapture p n).reg = s.reg := by
  unfold State.appendToCapture; simp only []; (repeat' split) <;> simp
@[simp] theorem State.appendToCapture_vib (p : Snapshot) (n : Nat) : (s.appendToCapture p n).vib = s.vib := by
  unfold State.appendToCapture; simp only []; (repeat' split) <;> simp
@[simp] theorem State.appendToCapture_seq (p : Snapshot) (n : Nat) : (s.appendToCapture p n).seq = s.seq := by
  unfold State.appendToCapture; simp only []; (repeat' split) <;> simp
@[simp] theorem State.appendToCapture_tru (p : Snapshot) (n : Nat) : (s.appendToCapture p n).tru = s.tru := by
  unfold State.appendToCapture; simp only []; (repeat' split) <;> simp
@[simp] theorem State.appendToCapture_rqh (p : Snapshot) (n : Nat) : (s.appendToCapture p n).rqh = s.rqh := by
  unfold State.appendToCapture; simp only []; (repeat' split) <;> simp
@[simp] theorem State.writeSnapshot_pending : s.writeSnapshot.pending = s.pending := by
  unfold State.writeSnapshot; (repeat' split) <;> simp
@[simp] theorem State.writeSnapshot_draws : s.writeSnapshot.draws = s.draws := by
  unfold State.writeSnapshot; (repeat' split) <;> simp
@[simp] theorem State.writeSnapshot_rp : s.writeSnapshot.rp = s.rp := by
  unfold State.writeSnapshot; (repeat' split) <;> simp
@[simp] theorem State.writeSnapshot_intake : s.writeSnapshot.intake = s.intake := by
  unfold State.writeSnapshot; (repeat' split) <;> simp
@[simp] theorem State.writeSnapshot_sched : s.writeSnapshot.sched = s.sched := by
  unfold State.writeSnapshot; (repeat' split) <;> simp
@[simp] theorem State.writeSnapshot_split : s.writeSnapshot.split = s.split := by
  unfold State.writeSnapshot; (repeat' split) <;> simp
@[simp] theorem State.writeSnapshot_lim : s.writeSnapshot.lim = s.lim := by
  unfold State.writeSnapshot; (repeat' split) <;> simp
@[simp] theorem State.writeSnapshot_reg : s.writeSnapshot.reg = s.reg := by
  unfold State.writeSnapshot; (repeat' split) <;> simp
@[simp] theorem State.writeSnapshot_vib : s.writeSnapshot.vib = s.vib := by
  unfold State.writeSnapshot; (repeat' split) <;> simp
@[simp] theorem State.writeSnapshot_seq : s.writeSnapshot.seq = s.seq := by
  unfold State.writeSnapshot; (repeat' split) <;> simp
@[simp] theorem State.writeSnapshot_tru : s.writeSnapshot.tru = s.tru := by
  unfold State.writeSnapshot; (repeat' split) <;> simp
@[simp] theorem State.writeSnapshot_rqh : s.writeSnapshot.rqh = s.rqh := by
  unfold State.writeSnapshot; (repeat' split) <;> simp
@[simp] theorem State.sendSegment_pending : s.sendSegment.pending = s.pending := by
  unfold State.sendSegment; (repeat' split) <;> simp
@[simp] theorem State.sendSegment_draws : s.sendSegment.draws = s.draws := by
  unfold State.sendSegment; (repeat' split) <;> simp
@[simp] theorem State.sendSegment_intake : s.sendSegment.intake = s.intake := by
  unfold State.sendSegment; (repeat' split) <;> simp
@[simp] theorem State.sendSegment_sched : s.sendSegment.sched = s.sched := by
  unfold State.sendSegment; (repeat' split) <;> simp
@[simp] theorem State.sendSegment_split : s.sendSegment.split = s.split := by
  unfold State.sendSegment; (repeat' split) <;> simp
@[simp] theorem State.sendSegment_lim : s.sendSegment.lim = s.lim := by
  unfold State.sendSegment; (repeat' split) <;> simp
@[simp] theorem State.sendSegment_reg : s.sendSegment.reg = s.reg := by
  unfold State.sendSegment; (repeat' split) <;> simp
@[simp] theorem State.sendSegment_vib : s.sendSegment.vib = s.vib := by
  unfold State.sendSegment; (repeat' split) <;> simp
@[simp] theorem State.sendSegment_seq : s.sendSegment.seq = s.seq := by
  unfold State.sendSegment; (repeat' split) <;> simp
@[simp] theorem State.sendSegment_tru : s.sendSegment.tru = s.tru := by
  unfold State.sendSegment; (repeat' split) <;> simp
@[simp] theorem State.sendSegment_rqh : s.sendSegment.rqh = s.rqh := by
  unfold State.sendSegment; (repeat' split) <;> simp
@[simp] theorem State.sendSegment_rpt : s.sendSegment.rpt = s.rpt := by
  unfold State.sendSegment; (repeat' split) <;> simp
@[simp] theorem State.sendSegment_strap : s.sendSegment.rp.strap = s.rp.strap := by
  unfold State.sendSegment; (repeat' split) <;> simp
@[simp] theorem State.endReadout_pending (r : ReadoutData) : (s.endReadout r).pending = s.pending := by
  simp [State.endReadout]
@[simp] theorem State.endReadout_draws (r : ReadoutData) : (s.endReadout r).draws = s.draws := by
  simp [State.endReadout]
@[simp] theorem State.endReadout_rp (r : ReadoutData) : (s.endReadout r).rp = s.rp := by
  simp [State.endReadout]
@[simp] theorem State.endReadout_intake (r : ReadoutData) : (s.endReadout r).intake = s.intake := by
  simp [State.endReadout]
@[simp] theorem State.endReadout_sched (r : ReadoutData) : (s.endReadout r).sched = s.sched := by
  simp [State.endReadout]
@[simp] theorem State.endReadout_split (r : ReadoutData) : (s.endReadout r).split = s.split := by
  simp [State.endReadout]
@[simp] theorem State.endReadout_lim (r : ReadoutData) : (s.endReadout r).lim = s.lim := by
  simp [State.endReadout]
@[simp] theorem State.endReadout_reg (r : ReadoutData) : (s.endReadout r).reg = s.reg := by
  simp [State.endReadout]
@[simp] theorem State.endReadout_vib (r : ReadoutData) : (s.endReadout r).vib = s.vib := by
  simp [State.endReadout]
@[simp] theorem State.endReadout_seq (r : ReadoutData) : (s.endReadout r).seq = s.seq := by
  simp [State.endReadout]
@[simp] theorem State.endReadout_tru (r : ReadoutData) : (s.endReadout r).tru = s.tru := by
  simp [State.endReadout]
@[simp] theorem State.endReadout_rpt (r : ReadoutData) : (s.endReadout r).rpt = s.rpt := by
  simp [State.endReadout]
@[simp] theorem State.sendRecordEnd_pending : s.sendRecordEnd.pending = s.pending := by
  unfold State.sendRecordEnd; (repeat' split) <;> simp
@[simp] theorem State.sendRecordEnd_draws : s.sendRecordEnd.draws = s.draws := by
  unfold State.sendRecordEnd; (repeat' split) <;> simp
@[simp] theorem State.sendRecordEnd_intake : s.sendRecordEnd.intake = s.intake := by
  unfold State.sendRecordEnd; (repeat' split) <;> simp
@[simp] theorem State.sendRecordEnd_sched : s.sendRecordEnd.sched = s.sched := by
  unfold State.sendRecordEnd; (repeat' split) <;> simp
@[simp] theorem State.sendRecordEnd_split : s.sendRecordEnd.split = s.split := by
  unfold State.sendRecordEnd; (repeat' split) <;> simp
@[simp] theorem State.sendRecordEnd_lim : s.sendRecordEnd.lim = s.lim := by
  unfold State.sendRecordEnd; (repeat' split) <;> simp
@[simp] theorem State.sendRecordEnd_reg : s.sendRecordEnd.reg = s.reg := by
  unfold State.sendRecordEnd; (repeat' split) <;> simp
@[simp] theorem State.sendRecordEnd_vib : s.sendRecordEnd.vib = s.vib := by
  unfold State.sendRecordEnd; (repeat' split) <;> simp
@[simp] theorem State.sendRecordEnd_seq : s.sendRecordEnd.seq = s.seq := by
  unfold State.sendRecordEnd; (repeat' split) <;> simp
@[simp] theorem State.sendRecordEnd_tru : s.sendRecordEnd.tru = s.tru := by
  unfold State.sendRecordEnd; (repeat' split) <;> simp
@[simp] theorem State.sendRecordEnd_rpt : s.sendRecordEnd.rpt = s.rpt := by
  unfold State.sendRecordEnd; (repeat' split) <;> simp
@[simp] theorem State.sendRecordEnd_strap : s.sendRecordEnd.rp.strap = s.rp.strap := by
  unfold State.sendRecordEnd; (repeat' split) <;> simp

/-! ## Trip Unit and Reporter (chapters 8 and 11) -/

@[simp] theorem State.takeConverterStatus_pending (m : Motor) (n : Nat) : (s.takeConverterStatus m n).pending = s.pending := by
  unfold State.takeConverterStatus; (repeat' split) <;> simp
@[simp] theorem State.takeConverterStatus_intake (m : Motor) (n : Nat) : (s.takeConverterStatus m n).intake = s.intake := by
  unfold State.takeConverterStatus; (repeat' split) <;> simp
@[simp] theorem State.takeConverterStatus_split (m : Motor) (n : Nat) : (s.takeConverterStatus m n).split = s.split := by
  unfold State.takeConverterStatus; (repeat' split) <;> simp
@[simp] theorem State.takeConverterStatus_vib (m : Motor) (n : Nat) : (s.takeConverterStatus m n).vib = s.vib := by
  unfold State.takeConverterStatus; (repeat' split) <;> simp
@[simp] theorem State.takeConverterStatus_active (m : Motor) (n : Nat) : (s.takeConverterStatus m n).sched.active = s.sched.active := by
  unfold State.takeConverterStatus; (repeat' split) <;> simp
@[simp] theorem State.takeConverterStatus_strap (m : Motor) (n : Nat) : (s.takeConverterStatus m n).rp.strap = s.rp.strap := by
  unfold State.takeConverterStatus; (repeat' split) <;> simp
@[simp] theorem State.takeConverterStatus_motor (m : Motor) (n : Nat) : (s.takeConverterStatus m n).lim.motor = s.lim.motor := by
  unfold State.takeConverterStatus; (repeat' split) <;> simp
@[simp] theorem State.sendNotices_pending : s.sendNotices.pending = s.pending := by
  unfold State.sendNotices; (repeat' split) <;> simp
@[simp] theorem State.sendNotices_draws : s.sendNotices.draws = s.draws := by
  unfold State.sendNotices; (repeat' split) <;> simp
@[simp] theorem State.sendNotices_intake : s.sendNotices.intake = s.intake := by
  unfold State.sendNotices; (repeat' split) <;> simp
@[simp] theorem State.sendNotices_sched : s.sendNotices.sched = s.sched := by
  unfold State.sendNotices; (repeat' split) <;> simp
@[simp] theorem State.sendNotices_split : s.sendNotices.split = s.split := by
  unfold State.sendNotices; (repeat' split) <;> simp
@[simp] theorem State.sendNotices_lim : s.sendNotices.lim = s.lim := by
  unfold State.sendNotices; (repeat' split) <;> simp
@[simp] theorem State.sendNotices_reg : s.sendNotices.reg = s.reg := by
  unfold State.sendNotices; (repeat' split) <;> simp
@[simp] theorem State.sendNotices_vib : s.sendNotices.vib = s.vib := by
  unfold State.sendNotices; (repeat' split) <;> simp
@[simp] theorem State.sendNotices_seq : s.sendNotices.seq = s.seq := by
  unfold State.sendNotices; (repeat' split) <;> simp
@[simp] theorem State.sendNotices_tru : s.sendNotices.tru = s.tru := by
  unfold State.sendNotices; (repeat' split) <;> simp
@[simp] theorem State.sendNotices_recorder : s.sendNotices.recorder = s.recorder := by
  unfold State.sendNotices; (repeat' split) <;> simp
@[simp] theorem State.sendNotices_rqh : s.sendNotices.rqh = s.rqh := by
  unfold State.sendNotices; (repeat' split) <;> simp
@[simp] theorem State.sendNotices_strap : s.sendNotices.rp.strap = s.rp.strap := by
  unfold State.sendNotices; (repeat' split) <;> simp
@[simp] theorem State.flushExpires_pending : s.flushExpires.pending = s.pending := by
  unfold State.flushExpires; (repeat' split) <;> simp
@[simp] theorem State.flushExpires_draws : s.flushExpires.draws = s.draws := by
  unfold State.flushExpires; (repeat' split) <;> simp
@[simp] theorem State.flushExpires_rp : s.flushExpires.rp = s.rp := by
  unfold State.flushExpires; (repeat' split) <;> simp
@[simp] theorem State.flushExpires_intake : s.flushExpires.intake = s.intake := by
  unfold State.flushExpires; (repeat' split) <;> simp
@[simp] theorem State.flushExpires_sched : s.flushExpires.sched = s.sched := by
  unfold State.flushExpires; (repeat' split) <;> simp
@[simp] theorem State.flushExpires_split : s.flushExpires.split = s.split := by
  unfold State.flushExpires; (repeat' split) <;> simp
@[simp] theorem State.flushExpires_lim : s.flushExpires.lim = s.lim := by
  unfold State.flushExpires; (repeat' split) <;> simp
@[simp] theorem State.flushExpires_reg : s.flushExpires.reg = s.reg := by
  unfold State.flushExpires; (repeat' split) <;> simp
@[simp] theorem State.flushExpires_vib : s.flushExpires.vib = s.vib := by
  unfold State.flushExpires; (repeat' split) <;> simp
@[simp] theorem State.flushExpires_seq : s.flushExpires.seq = s.seq := by
  unfold State.flushExpires; (repeat' split) <;> simp
@[simp] theorem State.flushExpires_tru : s.flushExpires.tru = s.tru := by
  unfold State.flushExpires; (repeat' split) <;> simp
@[simp] theorem State.flushExpires_recorder : s.flushExpires.recorder = s.recorder := by
  unfold State.flushExpires; (repeat' split) <;> simp
@[simp] theorem State.flushExpires_rqh : s.flushExpires.rqh = s.rqh := by
  unfold State.flushExpires; (repeat' split) <;> simp

/-! ## Intake (chapter 1) -/

@[simp] theorem State.discardSample_pending (j : Judgement) : (s.discardSample j).pending = s.pending := by
  cases j <;> simp [State.discardSample]
@[simp] theorem State.discardSample_draws (j : Judgement) : (s.discardSample j).draws = s.draws := by
  cases j <;> simp [State.discardSample]
@[simp] theorem State.discardSample_rp (j : Judgement) : (s.discardSample j).rp = s.rp := by
  cases j <;> simp [State.discardSample]
@[simp] theorem State.discardSample_sched (j : Judgement) : (s.discardSample j).sched = s.sched := by
  cases j <;> simp [State.discardSample]
@[simp] theorem State.discardSample_split (j : Judgement) : (s.discardSample j).split = s.split := by
  cases j <;> simp [State.discardSample]
@[simp] theorem State.discardSample_lim (j : Judgement) : (s.discardSample j).lim = s.lim := by
  cases j <;> simp [State.discardSample]
@[simp] theorem State.discardSample_reg (j : Judgement) : (s.discardSample j).reg = s.reg := by
  cases j <;> simp [State.discardSample]
@[simp] theorem State.discardSample_vib (j : Judgement) : (s.discardSample j).vib = s.vib := by
  cases j <;> simp [State.discardSample]
@[simp] theorem State.discardSample_seq (j : Judgement) : (s.discardSample j).seq = s.seq := by
  cases j <;> simp [State.discardSample]
@[simp] theorem State.discardSample_tru (j : Judgement) : (s.discardSample j).tru = s.tru := by
  cases j <;> simp [State.discardSample]
@[simp] theorem State.discardSample_recorder (j : Judgement) : (s.discardSample j).recorder = s.recorder := by
  cases j <;> simp [State.discardSample]
@[simp] theorem State.discardSample_rqh (j : Judgement) : (s.discardSample j).rqh = s.rqh := by
  cases j <;> simp [State.discardSample]
@[simp] theorem State.discardSample_rpt (j : Judgement) : (s.discardSample j).rpt = s.rpt := by
  cases j <;> simp [State.discardSample]

theorem State.sampleActions_field {α : Type} (g : State → α) (b : Bank) (v : Int) (n : Nat)
    (h1 : ∀ t : State, g (t.computeRow b v) = g t) (h2 : ∀ t : State, g (t.achieveBreakaway b v) = g t)
    (h3 : ∀ t : State, g (t.watchOverspeed b v) = g t) (h4 : ∀ t : State, g (t.sequenceSample b v n) = g t)
    (hd : ∀ t : State, g t.drawn = g t) (s : State) : g (s.deliverSpeed b v n) = g s := by
  unfold State.deliverSpeed
  split
  · refine inAnyOrder_field g hd _ _ _ (fun a ha => ?_)
    simp only [sampleActions, List.mem_cons, List.not_mem_nil, or_false] at ha
    rcases ha with rfl | rfl | rfl | rfl
    · exact h1
    · exact h2
    · exact h3
    · exact h4
  · simp [sampleActions, h1, h2, h3, h4]

@[simp] theorem State.deliverSpeed_pending (b : Bank) (v : Int) (n : Nat) : (s.deliverSpeed b v n).pending = s.pending := by
  exact State.sampleActions_field (·.pending) b v n (fun _ => by simp) (fun _ => by simp) (fun _ => by simp) (fun _ => by simp) (fun _ => rfl) s
@[simp] theorem State.deliverSpeed_intake (b : Bank) (v : Int) (n : Nat) : (s.deliverSpeed b v n).intake = s.intake := by
  exact State.sampleActions_field (·.intake) b v n (fun _ => by simp) (fun _ => by simp) (fun _ => by simp) (fun _ => by simp) (fun _ => rfl) s
@[simp] theorem State.deliverSpeed_split (b : Bank) (v : Int) (n : Nat) : (s.deliverSpeed b v n).split = s.split := by
  exact State.sampleActions_field (·.split) b v n (fun _ => by simp) (fun _ => by simp) (fun _ => by simp) (fun _ => by simp) (fun _ => rfl) s
@[simp] theorem State.deliverSpeed_active (b : Bank) (v : Int) (n : Nat) : (s.deliverSpeed b v n).sched.active = s.sched.active := by
  exact State.sampleActions_field (·.sched.active) b v n (fun _ => by simp) (fun _ => by simp) (fun _ => by simp) (fun _ => by simp) (fun _ => rfl) s
@[simp] theorem State.deliverSpeed_strap (b : Bank) (v : Int) (n : Nat) : (s.deliverSpeed b v n).rp.strap = s.rp.strap := by
  exact State.sampleActions_field (·.rp.strap) b v n (fun _ => by simp) (fun _ => by simp) (fun _ => by simp) (fun _ => by simp) (fun _ => rfl) s
@[simp] theorem State.takeSpeed_pending (b : Bank) (x : SpeedLatch) : (s.takeSpeed b x).pending = s.pending := by
  unfold State.takeSpeed; (repeat' split) <;> simp
@[simp] theorem State.takeSpeed_split (b : Bank) (x : SpeedLatch) : (s.takeSpeed b x).split = s.split := by
  unfold State.takeSpeed; (repeat' split) <;> simp
@[simp] theorem State.takeSpeed_active (b : Bank) (x : SpeedLatch) : (s.takeSpeed b x).sched.active = s.sched.active := by
  unfold State.takeSpeed; (repeat' split) <;> simp
@[simp] theorem State.takeSpeed_strap (b : Bank) (x : SpeedLatch) : (s.takeSpeed b x).rp.strap = s.rp.strap := by
  unfold State.takeSpeed; (repeat' split) <;> simp
@[simp] theorem State.takeArm_pending (m : Motor) (x : ArmLatch) : (s.takeArm m x).pending = s.pending := by
  simp [State.takeArm]
@[simp] theorem State.takeArm_split (m : Motor) (x : ArmLatch) : (s.takeArm m x).split = s.split := by
  simp [State.takeArm]
@[simp] theorem State.takeArm_active (m : Motor) (x : ArmLatch) : (s.takeArm m x).sched.active = s.sched.active := by
  simp [State.takeArm]
@[simp] theorem State.takeArm_strap (m : Motor) (x : ArmLatch) : (s.takeArm m x).rp.strap = s.rp.strap := by
  simp [State.takeArm]
@[simp] theorem State.takeRef_pending (x : RefLatch) : (s.takeRef x).pending = s.pending := by
  unfold State.takeRef; (repeat' split) <;> simp
@[simp] theorem State.takeRef_active (x : RefLatch) : (s.takeRef x).sched.active = s.sched.active := by
  unfold State.takeRef; (repeat' split) <;> simp
@[simp] theorem State.takeRef_strap (x : RefLatch) : (s.takeRef x).rp.strap = s.rp.strap := by
  unfold State.takeRef; (repeat' split) <;> simp

theorem State.takeOrDiscard_field {α : Type} (g : State → α) (tag : Word) (taken : Bool) (act : State → State)
    (ha : ∀ t, g (act t) = g t) (hd : ∀ j (t : State), g (t.discardSample j) = g t) (s : State) :
    g (s.takeOrDiscard tag taken act) = g s := by
  unfold State.takeOrDiscard
  split
  · exact ha s
  · exact hd _ s

@[simp] theorem State.readSample_pending (b : Bank) (e : SlotEntry) (f : RawFrame) : (s.readSample b e f).pending = s.pending := by
  unfold State.readSample
  split
  · exact State.takeOrDiscard_field (·.pending) _ _ _ (fun _ => by simp) (fun _ _ => by simp) s
  · exact State.takeOrDiscard_field (·.pending) _ _ _ (fun _ => by simp) (fun _ _ => by simp) s
  · exact State.takeOrDiscard_field (·.pending) _ _ _ (fun _ => by simp) (fun _ _ => by simp) s
  · simp
  · rfl
@[simp] theorem State.readSample_active (b : Bank) (e : SlotEntry) (f : RawFrame) : (s.readSample b e f).sched.active = s.sched.active := by
  unfold State.readSample
  split
  · exact State.takeOrDiscard_field (·.sched.active) _ _ _ (fun _ => by simp) (fun _ _ => by simp) s
  · exact State.takeOrDiscard_field (·.sched.active) _ _ _ (fun _ => by simp) (fun _ _ => by simp) s
  · exact State.takeOrDiscard_field (·.sched.active) _ _ _ (fun _ => by simp) (fun _ _ => by simp) s
  · simp
  · rfl
@[simp] theorem State.readSample_strap (b : Bank) (e : SlotEntry) (f : RawFrame) : (s.readSample b e f).rp.strap = s.rp.strap := by
  unfold State.readSample
  split
  · exact State.takeOrDiscard_field (·.rp.strap) _ _ _ (fun _ => by simp) (fun _ _ => by simp) s
  · exact State.takeOrDiscard_field (·.rp.strap) _ _ _ (fun _ => by simp) (fun _ _ => by simp) s
  · exact State.takeOrDiscard_field (·.rp.strap) _ _ _ (fun _ => by simp) (fun _ _ => by simp) s
  · simp
  · rfl
@[simp] theorem State.raiseSampleLoss_pending : s.raiseSampleLoss.pending = s.pending := by
  simp [State.raiseSampleLoss]
@[simp] theorem State.raiseSampleLoss_intake : s.raiseSampleLoss.intake = s.intake := by
  simp [State.raiseSampleLoss]
@[simp] theorem State.raiseSampleLoss_split : s.raiseSampleLoss.split = s.split := by
  simp [State.raiseSampleLoss]
@[simp] theorem State.raiseSampleLoss_vib : s.raiseSampleLoss.vib = s.vib := by
  simp [State.raiseSampleLoss]
@[simp] theorem State.raiseSampleLoss_active : s.raiseSampleLoss.sched.active = s.sched.active := by
  simp [State.raiseSampleLoss]
@[simp] theorem State.raiseSampleLoss_strap : s.raiseSampleLoss.rp.strap = s.rp.strap := by
  simp [State.raiseSampleLoss]
@[simp] theorem State.raiseSampleLoss_motor : s.raiseSampleLoss.lim.motor = s.lim.motor := by
  simp [State.raiseSampleLoss]
@[simp] theorem State.raiseReferenceLoss_pending : s.raiseReferenceLoss.pending = s.pending := by
  simp [State.raiseReferenceLoss]
@[simp] theorem State.raiseReferenceLoss_intake : s.raiseReferenceLoss.intake = s.intake := by
  simp [State.raiseReferenceLoss]
@[simp] theorem State.raiseReferenceLoss_split : s.raiseReferenceLoss.split = s.split := by
  simp [State.raiseReferenceLoss]
@[simp] theorem State.raiseReferenceLoss_vib : s.raiseReferenceLoss.vib = s.vib := by
  simp [State.raiseReferenceLoss]
@[simp] theorem State.raiseReferenceLoss_active : s.raiseReferenceLoss.sched.active = s.sched.active := by
  simp [State.raiseReferenceLoss]
@[simp] theorem State.raiseReferenceLoss_strap : s.raiseReferenceLoss.rp.strap = s.rp.strap := by
  simp [State.raiseReferenceLoss]
@[simp] theorem State.raiseReferenceLoss_motor : s.raiseReferenceLoss.lim.motor = s.lim.motor := by
  simp [State.raiseReferenceLoss]
@[simp] theorem State.raiseLosses_pending : s.raiseLosses.pending = s.pending := by
  unfold State.raiseLosses
  split
  · rfl
  · simp
  · simp
  · exact inEitherOrder_field (·.pending) (fun _ => rfl) (fun _ => by simp) (fun _ => by simp) s
@[simp] theorem State.raiseLosses_intake : s.raiseLosses.intake = s.intake := by
  unfold State.raiseLosses
  split
  · rfl
  · simp
  · simp
  · exact inEitherOrder_field (·.intake) (fun _ => rfl) (fun _ => by simp) (fun _ => by simp) s
@[simp] theorem State.raiseLosses_split : s.raiseLosses.split = s.split := by
  unfold State.raiseLosses
  split
  · rfl
  · simp
  · simp
  · exact inEitherOrder_field (·.split) (fun _ => rfl) (fun _ => by simp) (fun _ => by simp) s
@[simp] theorem State.raiseLosses_vib : s.raiseLosses.vib = s.vib := by
  unfold State.raiseLosses
  split
  · rfl
  · simp
  · simp
  · exact inEitherOrder_field (·.vib) (fun _ => rfl) (fun _ => by simp) (fun _ => by simp) s
@[simp] theorem State.raiseLosses_active : s.raiseLosses.sched.active = s.sched.active := by
  unfold State.raiseLosses
  split
  · rfl
  · simp
  · simp
  · exact inEitherOrder_field (·.sched.active) (fun _ => rfl) (fun _ => by simp) (fun _ => by simp) s
@[simp] theorem State.raiseLosses_strap : s.raiseLosses.rp.strap = s.rp.strap := by
  unfold State.raiseLosses
  split
  · rfl
  · simp
  · simp
  · exact inEitherOrder_field (·.rp.strap) (fun _ => rfl) (fun _ => by simp) (fun _ => by simp) s
@[simp] theorem State.raiseLosses_motor : s.raiseLosses.lim.motor = s.lim.motor := by
  unfold State.raiseLosses
  split
  · rfl
  · simp
  · simp
  · exact inEitherOrder_field (·.lim.motor) (fun _ => rfl) (fun _ => by simp) (fun _ => by simp) s
@[simp] theorem State.oweReference_pending : s.oweReference.pending = s.pending := by
  unfold State.oweReference; (repeat' split) <;> simp
@[simp] theorem State.oweReference_active : s.oweReference.sched.active = s.sched.active := by
  unfold State.oweReference; (repeat' split) <;> simp
@[simp] theorem State.oweReference_strap : s.oweReference.rp.strap = s.rp.strap := by
  unfold State.oweReference; (repeat' split) <;> simp
@[simp] theorem State.oweRegulation_pending : s.oweRegulation.pending = s.pending := by
  simp [State.oweRegulation]
@[simp] theorem State.oweRegulation_active : s.oweRegulation.sched.active = s.sched.active := by
  simp [State.oweRegulation]
@[simp] theorem State.oweRegulation_strap : s.oweRegulation.rp.strap = s.rp.strap := by
  simp [State.oweRegulation]
@[simp] theorem State.deadlineExpires_pending : s.deadlineExpires.pending = s.pending := by
  unfold State.deadlineExpires; (repeat' split) <;> simp
@[simp] theorem State.deadlineExpires_active : s.deadlineExpires.sched.active = s.sched.active := by
  unfold State.deadlineExpires; (repeat' split) <;> simp
@[simp] theorem State.deadlineExpires_strap : s.deadlineExpires.rp.strap = s.rp.strap := by
  unfold State.deadlineExpires; (repeat' split) <;> simp
@[simp] theorem State.raiseMarkTimeout_pending : s.raiseMarkTimeout.pending = s.pending := by
  unfold State.raiseMarkTimeout; (repeat' split) <;> simp
@[simp] theorem State.raiseMarkTimeout_intake : s.raiseMarkTimeout.intake = s.intake := by
  unfold State.raiseMarkTimeout; (repeat' split) <;> simp
@[simp] theorem State.raiseMarkTimeout_split : s.raiseMarkTimeout.split = s.split := by
  unfold State.raiseMarkTimeout; (repeat' split) <;> simp
@[simp] theorem State.raiseMarkTimeout_vib : s.raiseMarkTimeout.vib = s.vib := by
  unfold State.raiseMarkTimeout; (repeat' split) <;> simp
@[simp] theorem State.raiseMarkTimeout_active : s.raiseMarkTimeout.sched.active = s.sched.active := by
  unfold State.raiseMarkTimeout; (repeat' split) <;> simp
@[simp] theorem State.raiseMarkTimeout_strap : s.raiseMarkTimeout.rp.strap = s.rp.strap := by
  unfold State.raiseMarkTimeout; (repeat' split) <;> simp
@[simp] theorem State.raiseMarkTimeout_motor : s.raiseMarkTimeout.lim.motor = s.lim.motor := by
  unfold State.raiseMarkTimeout; (repeat' split) <;> simp
@[simp] theorem State.markTimerExpires_pending : s.markTimerExpires.pending = s.pending := by
  unfold State.markTimerExpires; (repeat' split) <;> simp
@[simp] theorem State.markTimerExpires_active : s.markTimerExpires.sched.active = s.sched.active := by
  unfold State.markTimerExpires; (repeat' split) <;> simp
@[simp] theorem State.markTimerExpires_strap : s.markTimerExpires.rp.strap = s.rp.strap := by
  unfold State.markTimerExpires; (repeat' split) <;> simp
@[simp] theorem State.closeCycle_pending : s.closeCycle.pending = s.pending := by
  unfold State.closeCycle; (repeat' split) <;> simp
@[simp] theorem State.closeCycle_strap : s.closeCycle.rp.strap = s.rp.strap := by
  unfold State.closeCycle; (repeat' split) <;> simp
@[simp] theorem State.openCycle_motor (w : Word) : (s.openCycle w).lim.motor = s.lim.motor := by
  simp [State.openCycle]
@[simp] theorem State.markActions_pending : s.markActions.pending = s.pending := by
  unfold State.markActions
  split
  · refine inAnyOrder_field (·.pending) (fun _ => rfl) _ _ _ (fun a ha t => ?_)
    simp only [List.mem_cons, List.not_mem_nil, or_false] at ha
    rcases ha with rfl | rfl | rfl <;> simp
  · simp
@[simp] theorem State.markActions_intake : s.markActions.intake = s.intake := by
  unfold State.markActions
  split
  · refine inAnyOrder_field (·.intake) (fun _ => rfl) _ _ _ (fun a ha t => ?_)
    simp only [List.mem_cons, List.not_mem_nil, or_false] at ha
    rcases ha with rfl | rfl | rfl <;> simp
  · simp
@[simp] theorem State.markActions_split : s.markActions.split = s.split := by
  unfold State.markActions
  split
  · refine inAnyOrder_field (·.split) (fun _ => rfl) _ _ _ (fun a ha t => ?_)
    simp only [List.mem_cons, List.not_mem_nil, or_false] at ha
    rcases ha with rfl | rfl | rfl <;> simp
  · simp
@[simp] theorem State.markActions_vib : s.markActions.vib = s.vib := by
  unfold State.markActions
  split
  · refine inAnyOrder_field (·.vib) (fun _ => rfl) _ _ _ (fun a ha t => ?_)
    simp only [List.mem_cons, List.not_mem_nil, or_false] at ha
    rcases ha with rfl | rfl | rfl <;> simp
  · simp
@[simp] theorem State.markActions_active : s.markActions.sched.active = s.sched.active := by
  unfold State.markActions
  split
  · refine inAnyOrder_field (·.sched.active) (fun _ => rfl) _ _ _ (fun a ha t => ?_)
    simp only [List.mem_cons, List.not_mem_nil, or_false] at ha
    rcases ha with rfl | rfl | rfl <;> simp
  · simp
@[simp] theorem State.markActions_strap : s.markActions.rp.strap = s.rp.strap := by
  unfold State.markActions
  split
  · refine inAnyOrder_field (·.rp.strap) (fun _ => rfl) _ _ _ (fun a ha t => ?_)
    simp only [List.mem_cons, List.not_mem_nil, or_false] at ha
    rcases ha with rfl | rfl | rfl <;> simp
  · simp
@[simp] theorem State.acceptMark_pending (w : Word) : (s.acceptMark w).pending = s.pending := by
  simp [State.acceptMark]
@[simp] theorem State.acceptMark_strap (w : Word) : (s.acceptMark w).rp.strap = s.rp.strap := by
  simp [State.acceptMark]

end Sys2Proof.Machine
end

