-- ==== Sys2Proof/Laws/Requests.lean ====
section
/-! SUPPORT. What a received frame and a command can do, told once: the cases of R1 to R3 and of R173. -/

namespace Sys2Proof.Machine

variable (s : State)

/-! ## Received frames -/

/-- R2: a checked frame that is heard is forwarded and then read. -/
theorem State.receiveFrame_hears {f : RawFrame} (h : s.hears f) :
    s.receiveFrame f = (s.forward f).readBroadcast f := by
  obtain ⟨⟨hl, hc⟩, hf, hs, hd⟩ := h
  have hd' : ¬ f.dest = s.rp.strap := by
    intro e
    have : s.rp.strap = 63 := e ▸ hd
    simp [State.forwardingOnly, this] at hf
  unfold State.receiveFrame State.dispose
  rw [if_neg (by simp [hl]), if_neg (by simp [hc]), if_neg (by simp [hf]), if_neg hs, if_neg hd', if_pos hd]

/-- R2, R10: a checked takeover or return frame from the AUX address at the part's own address. -/
theorem State.receiveFrame_hearsAux {f : RawFrame} (h : s.hearsAux f) : s.receiveFrame f = s.consume f := by
  obtain ⟨⟨hl, hc⟩, hf, hs, hd, _⟩ := h
  simp [State.receiveFrame, hl, hc, hf, State.dispose, hs, hd]

/-- R1 to R3: what becomes of any frame received whole. -/
theorem State.receiveFrame_cases (f : RawFrame) :
    (f.lengthError = true ∧ s.receiveFrame f = s.countLengthError) ∨
    (f.lengthError = false ∧ f.checkError = true ∧ s.receiveFrame f = s.countCheckError) ∨
    (cleanFrame f ∧ s.forwardingOnly = true ∧ s.receiveFrame f = s.forward f) ∨
    (cleanFrame f ∧ s.forwardingOnly = false ∧ s.receiveFrame f = s.dispose f) := by
  unfold State.receiveFrame cleanFrame
  cases f.lengthError <;> cases f.checkError <;> cases s.forwardingOnly <;> simp

/-! ## Commands -/

/-- R173: a command that a manager may send now is taken. -/
theorem State.commandArrives_takes {a : Asker} (h : s.takesFrom a) (kind tag : Word) {args : List Word}
    (hn : args.length ≤ 62) : s.commandArrives a.addr (kind :: tag :: args) = s.takeRequest a kind tag args := by
  obtain ⟨hf, hs, hm, hr, hl, hh⟩ := h
  have h64 : ¬ 64 < (kind :: tag :: args).length := by simp; omega
  unfold State.commandArrives
  rw [if_neg h64]
  simp [hf, hs, State.handleCommand, hm, State.managerCommand, hr, Nat.not_le.2 hl, hh]

/-- R173: a request taken whose owning rule answers at once, and does not touch the Request Handler, is answered. -/
theorem State.takeRequest_answers {a : Asker} {kind tag : Word} {args : List Word} {act : State → Answered} {u : State}
    {code : ResultCode} {ws : List Word} (hd : ownerDecides a kind.toNat args = some act)
    (ha : act (s.taking a tag) = (u, some (code, ws))) (hq : u.rqh = (s.taking a tag).rqh) :
    s.takeRequest a kind tag args = u.answered a kind tag code ws := by
  have hx : ∀ x : ManagerState, ({ x with holder := ⟨.answering, a.addr, tag⟩ } : ManagerState).holder =
      ⟨.answering, a.addr, tag⟩ := fun _ => rfl
  unfold State.takeRequest
  simp only [hd]
  rw [show s.setHolder a.manager ⟨.answering, a.addr, tag⟩ = s.taking a tag from rfl, ha]
  simp only [State.respond, State.formReply, State.answered, hq]
  simp [State.taking, State.setHolder]

/-- R173: a command that a manager may send now, whose owning rule answers at once and leaves the state `v` but for the request
being taken, leaves `v` answered. -/
theorem State.commandArrives_answers {a : Asker} (h : s.takesFrom a) {kind tag : Word} {args : List Word} (hn : args.length ≤ 62)
    {act : State → Answered} {u : State} {code : ResultCode} {ws : List Word} (hd : ownerDecides a kind.toNat args = some act)
    (ha : act (s.taking a tag) = (u, some (code, ws))) (v : State) (hv : u = v.taking a tag) (hq : v.rqh = s.rqh) :
    s.commandArrives a.addr (kind :: tag :: args) = v.answered a kind tag code ws := by
  rw [s.commandArrives_takes h kind tag hn]
  have hu : u.rqh = (s.taking a tag).rqh := by rw [hv]; simp [State.taking, State.setHolder, hq]
  rw [s.takeRequest_answers hd ha hu, hv]
  simp [State.answered, State.taking, State.setHolder, State.cycleTag]

/-- R171: a request of unknown kind or with the wrong number of arguments is answered BAD_ARGUMENT. -/
theorem State.takeRequest_bad {a : Asker} {kind tag : Word} {args : List Word}
    (hd : ownerDecides a kind.toNat args = none) :
    s.takeRequest a kind tag args = s.answered a kind tag .badArgument [] := by
  unfold State.takeRequest
  simp only [hd]
  simp [State.respond, State.formReply, State.answered, State.setHolder, State.cycleTag]

/-! ## Every command completes -/

/-- No command ends in a fault or a refusal. -/
theorem exec_answers (i : Instr) (s : State) : ∃ t, exec i s = .next t := by
  cases i <;> exact ⟨_, rfl⟩

/-- No step ends in a fault or a refusal. -/
theorem step_answers (s : State) : ∃ t, step s = .next t := by
  unfold step
  split
  · exact ⟨_, rfl⟩
  · exact exec_answers _ _

end Sys2Proof.Machine
end

