-- ==== Sys2Proof/Laws/Rows.lean ====
section
/-! SUPPORT. What loading one row of a table does (R23 to R28, R194): when it takes the words, that they read back as they were loaded,
and that every other row stays. -/

namespace Sys2Proof.Machine

/-! ## Words, bits and codes -/

theorem wordOfNat_toNat (w : Word) : wordOfNat w.toNat = w := by simp [wordOfNat]

/-- A bit as a number, by division. -/
theorem toNat_getLsbD (w : Word) (k : Nat) : (w.getLsbD k).toNat = w.toNat / 2 ^ k % 2 := by
  rw [BitVec.getLsbD, Nat.testBit_eq_decide_div_mod_eq]
  have := Nat.mod_two_eq_zero_or_one (w.toNat / 2 ^ k)
  rcases this with h | h <;> simp [h]

theorem keepIf_eq_some {α} (p : α → Bool) (x y : α) : keepIf p x = some y → x = y := by
  unfold keepIf; split <;> simp_all

theorem SlotKind.code_of_ofCode (n : Nat) (k : SlotKind) (h : SlotKind.ofCode n = some k) : k.code = n := by
  unfold SlotKind.ofCode at h; split at h <;> simp_all <;> subst h <;> rfl

theorem Role.code_of_ofCode (n : Nat) (k : Role) (h : Role.ofCode n = some k) : k.code = n := by
  unfold Role.ofCode at h; split at h <;> simp_all <;> subst h <;> rfl

theorem CauseClass.code_of_ofCode (n : Nat) (k : CauseClass) (h : CauseClass.ofCode n = some k) : k.code = n := by
  unfold CauseClass.ofCode at h; split at h <;> simp_all <;> subst h <;> rfl

theorem SlotKind.ofCode_isSome (n : Nat) (h : n < 8) : (SlotKind.ofCode n).isSome = true ↔ n ≤ 5 := by
  interval_cases n <;> simp [SlotKind.ofCode]

theorem Role.ofCode_isSome (n : Nat) (h : n < 16) : (Role.ofCode n).isSome = true ↔ n ≤ 10 := by
  interval_cases n <;> simp [Role.ofCode]

theorem CauseClass.ofCode_isSome (n : Nat) (h : n < 4) : (CauseClass.ofCode n).isSome = true ↔ n ≠ 3 := by
  interval_cases n <;> simp [CauseClass.ofCode]

theorem bitsOf_lt (w : Word) (lo n : Nat) : bitsOf w lo n < 2 ^ n := by
  unfold bitsOf; exact Nat.mod_lt _ (by positivity)

theorem keepIf_ne_none {α} (p : α → Bool) (x : α) : keepIf p x ≠ none ↔ p x = true := by
  unfold keepIf; split <;> simp_all

/-! ## When a row is taken -/

/-- R26: a class word is taken where no class has code 3. -/
theorem decodeClasses_ne_none (w : Word) : decodeClasses w ≠ none ↔ ∀ i : Fin 8, bitsOf w (2 * i.val) 2 ≠ 3 := by
  unfold decodeClasses classAt
  have h : ∀ i, CauseClass.ofCode (bitsOf w i 2) = none ↔ bitsOf w i 2 = 3 := by
    intro i
    have := CauseClass.ofCode_isSome (bitsOf w i 2) (bitsOf_lt w i 2)
    rw [← Option.not_isSome_iff_eq_none, this]; simp
  constructor
  · intro hh i hi
    apply hh
    have := (h (2*i.val)).2 hi
    fin_cases i <;> simp at this <;> simp [this]
  · intro hh
    have : ∀ i : Fin 8, ∃ c, CauseClass.ofCode (bitsOf w (2*i.val) 2) = some c := by
      intro i
      exact Option.ne_none_iff_exists'.1 (fun e => hh i ((h _).1 e))
    obtain ⟨a0, h0⟩ := this 0; obtain ⟨a1, h1⟩ := this 1; obtain ⟨a2, h2⟩ := this 2; obtain ⟨a3, h3⟩ := this 3
    obtain ⟨a4, h4⟩ := this 4; obtain ⟨a5, h5⟩ := this 5; obtain ⟨a6, h6⟩ := this 6; obtain ⟨a7, h7⟩ := this 7
    simp at h0 h1 h2 h3 h4 h5 h6 h7
    simp [h0, h1, h2, h3, h4, h5, h6, h7]

/-- R23 to R26, R194: the words of one row are taken exactly where they are of its size, every field in its range. -/
theorem Bank.loadRow_ne_none (b : Bank) (t : Table) (r : Nat) (hr : r < t.rows) (ws : List Word) :
    b.loadRow t r ws ≠ none ↔ rowInRange t r ws := by
  cases t
  · simp only [Bank.loadRow, ne_eq, Option.map_eq_none_iff]
    rw [← ne_eq]
    unfold SpeedRow.decode; split
    · rw [keepIf_ne_none]; simp [SpeedRow.inRange, rowInRange, Machine.inRange, and_assoc]
    · simp [rowInRange]
  · simp only [Bank.loadRow, ne_eq, Option.map_eq_none_iff]
    unfold decodeVibRow
    simp only [rowInRange]
    split
    · rename_i h
      have v : ∀ l : List Word, l.length = 6 → ∃ c, VibCell.decode l = some c := by
        intro l hl
        match l, hl with
        | [a, b, c, d, e, f], _ => exact ⟨_, rfl⟩
      obtain ⟨c0, e0⟩ := v (ws.take 6) (by simp [h]); obtain ⟨c1, e1⟩ := v ((ws.drop 6).take 6) (by simp [h])
      obtain ⟨c2, e2⟩ := v ((ws.drop 12).take 6) (by simp [h]); obtain ⟨c3, e3⟩ := v ((ws.drop 18).take 6) (by simp [h])
      simp [e0, e1, e2, e3, h]
    · simp [*]
  · simp only [Bank.loadRow, ne_eq, Option.map_eq_none_iff]
    unfold SlotEntry.decode; split
    · rename_i w off mul
      simp only [rowInRange]
      have k := SlotKind.ofCode_isSome (bitsOf w 7 3) (bitsOf_lt w 7 3)
      have k2 := Role.ofCode_isSome (bitsOf w 2 4) (bitsOf_lt w 2 4)
      have hs : bitsOf w 10 6 = (w.extractLsb' 10 6).toNat := by
        simp [bitsOf, BitVec.extractLsb'_toNat, Nat.shiftRight_eq_div_pow]
      split
      · simp_all
      · rename_i h0
        split
        · rename_i kk rr h1 h2
          rw [← ne_eq, keepIf_ne_none]
          simp [h1, h2] at k k2
          simp [SlotEntry.inRange, k, k2, hs]
          have := off.toInt_lt; have := off.le_toInt; have := mul.isLt
          constructor <;> intro h <;> (try rw [← BitVec.toNat_inj] at *) <;> simp_all <;> omega
        · rename_i h
          simp
          intro _ h1 h2
          exfalso
          cases e1 : SlotKind.ofCode (bitsOf w 7 3) <;> cases e2 : Role.ofCode (bitsOf w 2 4) <;> simp_all
    · simp [rowInRange]
  · have : r = 0 ∨ r = 1 ∨ r = 2 ∨ r = 3 := by simp [Table.rows] at hr; omega
    rcases this with rfl | rfl | rfl | rfl
    · simp only [Bank.loadRow, ne_eq, Option.map_eq_none_iff]
      unfold Group0.decode; split
      · rename_i ks _ _ _ _ _ _ _ _ _ _ _
        simp only [rowInRange]
        split
        · rw [← ne_eq, keepIf_ne_none]; simp [Group0.inRange, Machine.inRange]
          have := bitsOf_lt ks 0 8
          constructor <;> intro h <;> simp_all <;> omega
        · simp_all
      · simp [rowInRange]
    · simp only [Bank.loadRow, ne_eq, Option.map_eq_none_iff]
      unfold Group1.decode; split
      · rw [← ne_eq, keepIf_ne_none]; simp [Group1.inRange, rowInRange, Machine.inRange, and_assoc]
      · simp [rowInRange]
    · simp only [Bank.loadRow, ne_eq, Option.map_eq_none_iff]
      unfold Group2.decode; split
      · simp only [rowInRange]
        split
        · rw [← ne_eq, keepIf_ne_none]; simp [Group2.inRange, Machine.inRange, and_assoc, *]
        · simp_all
      · simp [rowInRange]
    · simp only [Bank.loadRow, ne_eq, Option.map_eq_none_iff]
      unfold Group3.decode; split
      · rename_i pre post lock cls p0 p1 p2 tr fl sg
        simp only [rowInRange]
        rw [← decodeClasses_ne_none cls]
        have hb : ∀ w : Word, ∀ lo, bitsOf w lo 3 ≤ 7 := fun w lo => by have := bitsOf_lt w lo 3; omega
        split
        · rename_i h; simp at h
          simp; intros; simp_all
        · rename_i h0
          split
          · rename_i cl hcl
            rw [← ne_eq, keepIf_ne_none]; simp [Group3.inRange, Machine.inRange, hb, hcl] at *
            constructor <;> intro h <;> simp_all
          · simp_all
      · simp [rowInRange]

/-! ## Rows read back as they were loaded -/

theorem SlotEntry.words_of_decode (ws : List Word) (e : SlotEntry) (h : SlotEntry.decode ws = some e) : e.words = ws := by
  unfold SlotEntry.decode at h
  split at h
  · rename_i w off mul
    split at h
    · cases h
    · rename_i h0
      split at h
      · rename_i k r hk hr
        have := keepIf_eq_some _ _ _ h; subst this
        have h0' : w.toNat / 2 ^ 0 % 2 = 0 := by rw [← toNat_getLsbD]; simp at h0 ⊢; exact h0
        have e1 := toNat_getLsbD w 6
        have e2 : (if w.getLsbD 1 then Level.commission else .operate).code = w.toNat / 2 ^ 1 % 2 := by
          rw [← toNat_getLsbD]; cases w.getLsbD 1 <;> rfl
        have := w.isLt
        simp only [SlotEntry.words, SlotKind.code_of_ofCode _ _ hk, Role.code_of_ofCode _ _ hr, e1, e2, bitsOf, wordOfNat_toNat]
        congr 1
        · apply BitVec.eq_of_toNat_eq
          simp [BitVec.extractLsb'_toNat, Nat.shiftRight_eq_div_pow]
          omega
        · simp [wordOfInt]
      · cases h
  · cases h

theorem SpeedRow.words_of_decode (ws : List Word) (e : SpeedRow) (h : SpeedRow.decode ws = some e) : e.words = ws := by
  unfold SpeedRow.decode at h
  split at h
  · have := keepIf_eq_some _ _ _ h; subst this; simp [SpeedRow.words, wordOfNat_toNat]
  · cases h

theorem VibCell.words_of_decode (ws : List Word) (e : VibCell) (h : VibCell.decode ws = some e) : e.words = ws := by
  unfold VibCell.decode at h
  split at h
  · rename_i a b c d e f
    have pair : ∀ x y : Word, wordsOfNat32 (nat32 x y) = [x, y] := by
      intro x y
      have := x.isLt
      have := y.isLt
      have hi : (x.toNat * 65536 + y.toNat) / 65536 = x.toNat := by omega
      simp only [wordsOfNat32, nat32, hi]
      congr 1
      · simp
      · congr 1
        apply BitVec.eq_of_toNat_eq
        simp
        omega
    cases h
    simp [VibCell.words, pair]
  · cases h

theorem wordsOfVibRow_of_decode (ws : List Word) (r : Vector VibCell 4) (h : decodeVibRow ws = some r) : wordsOfVibRow r = ws := by
  unfold decodeVibRow at h
  split at h
  · rename_i hl
    split at h
    · rename_i a b c d ha hb hc hd
      cases h
      have e : ws = ws.take 6 ++ ((ws.drop 6).take 6 ++ ((ws.drop 12).take 6 ++ (ws.drop 18).take 6)) := by
        have : (ws.drop 18).take 6 = ws.drop 18 := List.take_of_length_le (by simp [hl])
        rw [this]
        conv_lhs =>
          rw [← List.take_append_drop 6 ws, ← List.take_append_drop 6 (ws.drop 6),
            ← List.take_append_drop 6 ((ws.drop 6).drop 6)]
        simp
      simp only [wordsOfVibRow, VibCell.words_of_decode _ _ ha, VibCell.words_of_decode _ _ hb, VibCell.words_of_decode _ _ hc,
        VibCell.words_of_decode _ _ hd, Vector.getElem_mk, List.getElem_toArray, List.getElem_cons_zero, List.getElem_cons_succ,
        List.append_assoc]
      exact e.symm
    · cases h
  · cases h

theorem Group0.words_of_decode (ws : List Word) (g : Group0) (h : Group0.decode ws = some g) : g.words = ws := by
  unfold Group0.decode at h
  split at h
  · split at h
    · rename_i ks _ _ _ _ _ _ _ _ _ _ _ hz
      have := keepIf_eq_some _ _ _ h; subst this
      have := ks.isLt
      have e : wordOfNat (bitsOf ks 8 4 * 256 + bitsOf ks 0 8) = ks := by
        apply BitVec.eq_of_toNat_eq
        simp [wordOfNat, bitsOf] at hz ⊢
        omega
      simp [Group0.words, wordOfNat_toNat, e]
    · cases h
  · cases h

theorem Group1.words_of_decode (ws : List Word) (g : Group1) (h : Group1.decode ws = some g) : g.words = ws := by
  unfold Group1.decode at h
  split at h
  · have := keepIf_eq_some _ _ _ h; subst this; simp [Group1.words, wordOfNat_toNat]
  · cases h

theorem Group2.words_of_decode (ws : List Word) (g : Group2) (h : Group2.decode ws = some g) : g.words = ws := by
  unfold Group2.decode at h
  split at h
  · split at h
    · rename_i chan hz
      have := keepIf_eq_some _ _ _ h; subst this
      have := chan.isLt
      have pin : ∀ k, (pinionOf chan k == .b) = chan.getLsbD k := by
        intro k; unfold pinionOf; cases chan.getLsbD k <;> rfl
      have e : ∀ g : Group2, g.pinion = #v[pinionOf chan 0, pinionOf chan 1, pinionOf chan 2, pinionOf chan 3] →
          g.discardOnShock = #v[chan.getLsbD 4, chan.getLsbD 5, chan.getLsbD 6, chan.getLsbD 7] →
          g.vibLatch = chan.getLsbD 8 → wordOfNat g.channelWord = chan := by
        intro g h1 h2 h3
        apply BitVec.eq_of_toNat_eq
        simp only [wordOfNat, bitsOf] at hz ⊢
        rw [Group2.channelWord, h1, h2, h3]
        simp only [bitAt, Vector.getElem_mk, List.getElem_toArray, List.getElem_cons_zero, List.getElem_cons_succ, pin, toNat_getLsbD,
          BitVec.toNat_ofNat]
        omega
      rw [Group2.words, e _ rfl rfl rfl]
      simp [wordOfNat_toNat]
    · cases h
  · cases h

theorem Group3.words_of_decode (ws : List Word) (g : Group3) (h : Group3.decode ws = some g) : g.words = ws := by
  unfold Group3.decode at h
  split at h
  · split at h
    · cases h
    · rename_i p0 p1 p2 _ _ _ hz
      split at h
      · rename_i cl hcl
        have := keepIf_eq_some _ _ _ h; subst this
        have e : ∀ p : Word, p.getLsbD 15 = false →
            wordOfNat (priorityWord (bitsOf p 0 3) (bitsOf p 3 3) (bitsOf p 6 3) (bitsOf p 9 3) (bitsOf p 12 3)) = p := by
          intro p h
          have h' : p.toNat / 2 ^ 15 % 2 = 0 := by rw [← toNat_getLsbD, h]; rfl
          have := p.isLt
          apply BitVec.eq_of_toNat_eq
          simp [wordOfNat, priorityWord, bitsOf] at h' ⊢
          omega
        have c : ∀ w, decodeClasses w = some cl → wordOfNat (classWord cl) = w := by
          intro w h
          unfold decodeClasses classAt at h
          split at h
          · rename_i h0 h1 h2 h3 h4 h5 h6 h7
            cases h
            have := w.isLt
            apply BitVec.eq_of_toNat_eq
            have code := CauseClass.code_of_ofCode
            simp [wordOfNat, classWord, code _ _ h0, code _ _ h1, code _ _ h2, code _ _ h3, code _ _ h4, code _ _ h5, code _ _ h6,
              code _ _ h7, bitsOf]
            omega
          · cases h
        simp at hz
        simp [Group3.words, wordOfNat_toNat, e, c _ hcl, hz]
      · cases h
  · cases h

/-- R27, R29: a row taken reads back as the words loaded. -/
theorem Bank.loadRow_rowWords (b b' : Bank) (t : Table) (r : Nat) (ws : List Word) (hr : r < t.rows) (h : b.loadRow t r ws = some b') :
    b'.rowWords t r = ws := by
  cases t
  · obtain ⟨x, hx, rfl⟩ := Option.map_eq_some_iff.1 h
    simp [Table.rows] at hr
    simp [Bank.rowWords, hr, SpeedRow.words_of_decode _ _ hx]
  · obtain ⟨x, hx, rfl⟩ := Option.map_eq_some_iff.1 h
    simp [Table.rows] at hr
    simp [Bank.rowWords, hr, wordsOfVibRow_of_decode _ _ hx]
  · obtain ⟨x, hx, rfl⟩ := Option.map_eq_some_iff.1 h
    simp [Table.rows] at hr
    simp [Bank.rowWords, hr, SlotEntry.words_of_decode _ _ hx]
  · have : r = 0 ∨ r = 1 ∨ r = 2 ∨ r = 3 := by simp [Table.rows] at hr; omega
    rcases this with rfl | rfl | rfl | rfl <;> obtain ⟨x, hx, rfl⟩ := Option.map_eq_some_iff.1 h
    · exact Group0.words_of_decode _ _ hx
    · exact Group1.words_of_decode _ _ hx
    · exact Group2.words_of_decode _ _ hx
    · exact Group3.words_of_decode _ _ hx

/-- R27: every other row, of this table or another, reads as before. -/
theorem Bank.loadRow_frame (b b' : Bank) (t t' : Table) (r r' : Nat) (ws : List Word) (h : b.loadRow t r ws = some b')
    (hr : r < t.rows) (hr' : r' < t'.rows) (hne : t' = t → r' ≠ r) : b'.rowWords t' r' = b.rowWords t' r' := by
  cases t
  case driveConstants =>
    have : r = 0 ∨ r = 1 ∨ r = 2 ∨ r = 3 := by simp [Table.rows] at hr; omega
    rcases this with rfl | rfl | rfl | rfl <;> obtain ⟨x, hx, rfl⟩ := Option.map_eq_some_iff.1 h <;> cases t' <;> try rfl
    all_goals
      have : r' = 0 ∨ r' = 1 ∨ r' = 2 ∨ r' = 3 := by simp [Table.rows] at hr'; omega
      rcases this with rfl | rfl | rfl | rfl <;> first | rfl | exact absurd rfl (hne rfl)
  all_goals
    obtain ⟨x, hx, rfl⟩ := Option.map_eq_some_iff.1 h
    cases t' <;> first
      | simp only [Bank.rowWords, Vector.getElem?_setIfInBounds_ne (hne rfl).symm]
      | simp only [Bank.rowWords]

end Sys2Proof.Machine
end

