-- ==== Sys2Proof/WellFormed.lean ====
section
/-! DEFINITION. Which commands are well formed: a row named after a frame kind carries a frame of that kind, and a command payload fits
a frame. -/

namespace Sys2Proof

/-- R190: the kinds of R14's row: reference, armature and speed. -/
def isSampleKind (kind : Nat) : Bool := kind == kindReference || kind == kindArmature || kind == kindSpeed

/-- A well-formed command. The kind is the one the frame carries; its length and its frame check may be in error (R1). A command
frame's payload has at most 64 words (chapter 12). -/
def Instr.wellFormed : Instr → Bool
  | .mark f => f.kindCode == kindMark
  | .shockHoldExpiry f => f.kindCode == kindMark
  | .shockEntryAgedOut f => f.kindCode == kindMark
  | .breakawayExpired f => f.kindCode == kindMark
  | .pendingActivationSwap f => f.kindCode == kindMark
  | .sampleFrame f => isSampleKind f.kindCode
  | .vibrationBlock f => f.kindCode == kindVibration
  | .takeover f => f.kindCode == kindTakeover
  | .returnFrame f => f.kindCode == kindReturn
  | .unknownRequest _ payload => payload.length ≤ 64
  | .loadRows _ _ _ _ _ rows => rows.length ≤ 59
  | .frameReceived _ => true
  | .transmissionEnd => true
  | .deadlineExpiry => true
  | .markTimerExpiry => true
  | .auxFrameQueued => true
  | .turnTimerExpiry => true
  | .overdueTimerExpiry => true
  | .recallTimerExpiry => true
  | .noticeFrame => true
  | .flushTimerExpiry => true
  | .responseQueued _ => true
  | .describe _ _ => true
  | .readStatus _ _ _ => true
  | .pollAttention _ _ => true
  | .enable _ _ => true
  | .disable _ _ => true
  | .startRun _ _ => true
  | .startTurning _ _ => true
  | .stop _ _ => true
  | .trip _ _ _ => true
  | .acknowledgeTrip _ _ => true
  | .setHotStop _ _ => true
  | .clearHotStop _ _ => true
  | .clearAlarms _ _ => true
  | .annotate _ _ _ => true
  | .readRecordHeader _ _ _ => true
  | .readRecord _ _ _ _ _ => true
  | .recordData => true
  | .recordEnd => true
  | .abortReadout _ _ => true
  | .lockRecord _ _ _ => true
  | .unlockRecord _ _ _ => true
  | .eraseRecords _ _ => true
  | .readRows _ _ _ _ _ _ => true
  | .activate _ _ => true
  | .discardStaged _ _ => true
  | .pinRow _ _ _ => true
  | .releaseRow _ _ => true
  | .freezeTables _ _ => true
  | .restart _ _ => true
  | .restartTakesEffect => true
  | .powerOn _ _ => true
  | .hardwareReset _ => true

end Sys2Proof
end

