-- ==== Sys2Proof/Tests/Slice0.lean ====
section
/-! SUPPORT. Tests on fixed values: refused commands, worked examples of the manual, one step of each family of commands, and a witness
for the hypotheses of each statement, with one for each of its clauses. -/

namespace Sys2Proof.Tests

set_option Elab.async false

open Sys2Proof.Machine

/-! ## A sample bank and states -/

def g0 : Group0 where
  vlim := 4300
  imax := 6144
  iTrip := 9000
  satLimit := 40
  ks := 4
  shockTripCount := 3
  trimMax := 256
  contactBias := 512
  imbalanceLimit := 600
  imbalanceCycles := 3
  shockStep := 1500
  shockClamp := 3000
  shockHold := 50
  shockWindow := 200
  breakawayLimit := 8192
  breakawayCycles := 400
  overspeed := 26000

def g1 : Group1 where
  rowWidth := 640
  standstillSpeed := 48
  movingSpeed := 160
  stopConfirm := 2
  deadline := 1500
  markTimeout := 20
  missLimit := 3
  refLossLimit := 5
  turnAngle := 1024
  turnInterval := 600
  turnOverdue := 120
  recallTimeout := 30

def g2 : Group2 where
  vibWindow := 16
  confirmWindows := 2
  releaseWindows := 2
  persistWindows := 4
  hysteresis := 32
  derateLevel := 4096
  deadWindows := 2
  minDeadRow := 10
  pinion := #v[.a, .a, .b, .b]
  discardOnShock := #v[true, false, true, false]
  vibLatch := false

def g3 : Group3 where
  preDepth := 4
  postDepth := 3
  lockSet := 0
  classes := #v[.trip, .warn, .trip, .trip, .trip, .ignore, .trip, .trip]
  priorities := #v[0, 0, 0, 0, 0, 0, 0, 0, 0, 0, 0, 0, 0, 0, 0]
  noticeTrigger := 4
  noticeFlush := 50
  segmentSize := 4

def row : SpeedRow := ⟨1536, 96, 3072, 2880, 5120, 2048⟩

def entry (source : Addr) (kind : SlotKind) (slot : Bool) (role : Role) : SlotEntry :=
  ⟨source, kind, slot, role, .commission, 0, 4096⟩

def serviceEntry (l : Level) : SlotEntry := { entry 30 .command false .service with level := l }

def bankOf (l : Level) (breakaway : CauseClass) : Bank where
  speed := Vector.replicate 32 row
  vib := Vector.replicate 32 (Vector.replicate 4 ⟨100, 100000, 200000⟩)
  slots := ⟨([entry 11 .armature false (.arm .a), entry 12 .armature false (.arm .b), entry 14 .speed false .speed,
    entry 0 .reference false .ref, entry 21 .vibration true (.vib 2), entry 40 .takeover false .aux,
    serviceEntry l] ++ List.replicate 25 SlotEntry.zero).toArray, rfl⟩
  dc := ⟨g0, g1, g2, { g3 with classes := g3.classes.set 3 breakaway }⟩

def bank : Bank := bankOf .commission .trip

/-- A station at address 5 with bank `b` active, in drive state `d`, in an open cycle of tag 7. -/
def with_ (b : Bank) (d : DriveState) : State :=
  { State.initial 5 with
    sched := { Schedule.initial with active := some b, staged := some b, generation := 1 }
    intake := { Intake.initial with cycle := some 7, deadline := .running 1500, markTimer := .running 20000 }
    seq := { Sequencer.initial with drive := d, grant := if d = .auxiliary then .granted else .none }
    tru := { TripUnit.initial with declared := d == .tripped } }

def at_ (d : DriveState) : State := with_ bank d

/-- The same with the deadline of the cycle expired. -/
def late (s : State) : State := { s with intake := { s.intake with deadline := .expired } }

/-- The drive master, the service station at COMMISSION level, and at OPERATE level. -/
def master : Asker := ⟨.driveMaster, .commission, 0⟩
def station : Asker := ⟨.serviceStation, .commission, 30⟩
def operator : Asker := ⟨.serviceStation, .operate, 30⟩

/-- The part with a SERVICE entry at OPERATE level. -/
def operated (d : DriveState) : State := with_ (bankOf .operate .trip) d

def markFrame (tag : Word) : RawFrame := makeFrame 63 0 kindMark tag []
def armFrame (fault current : Word) : RawFrame := makeFrame 63 11 kindArmature 7 [16 + fault, current, 100]
def armEntry : SlotEntry := entry 11 .armature false (.arm .a)
def speedFrame (fault v : Word) : RawFrame := makeFrame 63 14 kindSpeed 7 [fault, v, 100]
def speedEntry : SlotEntry := entry 14 .speed false .speed
def refFrame (permit t : Word) : RawFrame := makeFrame 63 0 kindReference 7 [permit, t]
def refEntry : SlotEntry := entry 0 .reference false .ref
def vibFrame (q : Word) : RawFrame := makeFrame 63 21 kindVibration 7 [256 + q, 0, 1, 2, 3, 4, 5, 6, 7, 8]
def vibEntry : SlotEntry := entry 21 .vibration true (.vib 2)
def auxFrame (kind : Nat) : RawFrame := makeFrame 5 40 kind 7 []

/-- The state a command leaves. -/
def after (c : Instr) (s : State) : State :=
  match exec c s with
  | .next t => t
  | _ => s

/-- A state with the Ring Port changed, and so on for the other blocks. -/
def rpOf (s : State) (g : RingPort → RingPort) : State := { s with rp := g s.rp }
def intakeOf (s : State) (g : Intake → Intake) : State := { s with intake := g s.intake }
def schedOf (s : State) (g : Schedule → Schedule) : State := { s with sched := g s.sched }
def seqOf (s : State) (g : Sequencer → Sequencer) : State := { s with seq := g s.seq }
def recorderOf (s : State) (g : Recorder → Recorder) : State := { s with recorder := g s.recorder }

theorem test_bank_is_valid : bank.failure 5 = none := by decide +kernel

/-! ## Ill-formed commands are refused -/

theorem test_wellFormed_mark : (Instr.mark (refFrame 1 0)).wellFormed = false ∧ (Instr.mark (markFrame 0)).wellFormed = true := by
  decide +kernel
theorem test_wellFormed_markEvents : [Instr.shockHoldExpiry (armFrame 0 0), .shockEntryAgedOut (armFrame 0 0),
    .breakawayExpired (armFrame 0 0), .pendingActivationSwap (armFrame 0 0)].all (!·.wellFormed) = true := by decide +kernel
theorem test_wellFormed_sampleFrame : (Instr.sampleFrame (markFrame 0)).wellFormed = false := by decide +kernel
theorem test_wellFormed_vibrationBlock : (Instr.vibrationBlock (armFrame 0 0)).wellFormed = false := by decide +kernel
theorem test_wellFormed_auxiliary : (Instr.takeover (auxFrame kindReturn)).wellFormed = false ∧
    (Instr.returnFrame (auxFrame kindTakeover)).wellFormed = false := by decide +kernel
theorem test_wellFormed_unknownRequest : (Instr.unknownRequest 0 (List.replicate 65 0)).wellFormed = false ∧
    (Instr.unknownRequest 0 (List.replicate 64 0)).wellFormed = true := by decide +kernel
theorem test_wellFormed_loadRows : (Instr.loadRows 0 0 0 0 0 (List.replicate 60 0)).wellFormed = false := by decide +kernel

/-! ## Worked examples of the manual -/

/-- Section 1.5: offset -12 with multiplier 4700, and offset 20 with multiplier 2048. -/
theorem test_conditioning :
    let arm : SlotEntry := { armEntry with offset := -12, multiplier := 4700 }
    let vib : SlotEntry := { vibEntry with offset := 20, multiplier := 2048 }
    arm.condition 5154 = 5900 ∧ arm.condition 3600 = 4117 ∧ arm.condition (-300) = -359 ∧
    arm.condition 30000 = 32767 ∧ vib.condition (-41) = -11 := by decide +kernel

/-- R39 with row_width 640. -/
theorem test_computed_rows :
    (rowOf bank 19000).val = 29 ∧ (rowOf bank (-700)).val = 1 ∧ (rowOf bank 639).val = 0 ∧ (rowOf bank 25000).val = 31 := by
  decide +kernel

/-- The state of sections 3.7, 4.3 and 5.6 before the reference event of cycle n: vibration channel 2 in ALARM, both armatures taken. -/
def rowCase : State :=
  let s := at_ .running
  { s with
    split := { s.split with acc := -2560, trim := -10 }
    vib := { s.vib with ceiling := ⟨12288, 4096⟩ }
    intake := { s.intake with
      arm := ⟨⟨5900, 0, true, 0, ⟨.fresh, true, 0, false⟩⟩, ⟨5200, 0, true, 0, ⟨.fresh, true, 0, false⟩⟩⟩
      ref := ⟨9000, ⟨.fresh, true, 0, false⟩⟩ } }

/-- Section 3.7, cycle n. -/
theorem test_split :
    let p := rowCase.referenceEvent.split
    p.acc = -5360 ∧ p.trim = -20 ∧ p.lastSplit = ⟨4480, 4520⟩ ∧ p.prevLimited = ⟨false, true⟩ ∧ p.imbalanceCount = 1 := by
  decide +kernel

/-- Section 4.3; the raise for motor B has detail 424. -/
theorem test_limits :
    let t := rowCase.referenceEvent
    t.lim.motor.a.applied = 4480 ∧ t.lim.motor.b.applied = 4096 ∧ t.lim.motor.a.iref = 5973 ∧ t.lim.motor.b.iref = 5461 ∧
    t.lim.motor.b.lmotEff = 4096 ∧ t.lim.motor.b.lgenEff = 2048 ∧
    t.rpt.notices = [⟨.torqueLimit, 0, 7, .motor .b, 424⟩] := by decide +kernel

/-- Section 5.6. -/
theorem test_regulation :
    regulateLoop 650000 1536 96 4300 5973 5900 = ⟨657008, 3004, false⟩ ∧
    regulateLoop 705000 1536 96 4300 5461 5200 = ⟨705000, 4300, true⟩ ∧
    measuredTorque 5900 3072 = 4425 ∧ measuredTorque 5200 3072 = 3900 := by decide +kernel

/-- R54: section 3.6. -/
theorem test_share_at_swap :
    let b : Bank := { bank with dc := { bank.dc with g0 := { g0 with trimMax := 16 } } }
    (Splitter.swapped { Splitter.initial with acc := -6160, trim := -24 } b).acc = -4096 ∧
    (Splitter.swapped { Splitter.initial with acc := -6160, trim := -24 } b).trim = -16 := by decide +kernel

/-- R95: a sequence of 47 after 48 is an old block. -/
theorem test_old_block : ({ Channel.initial with lastSeq := some 48 } : Channel).gap 47 = 254 := by decide +kernel

/-- R191: the residue of a frame with its check. -/
theorem test_frame_check : crc ((armFrame 0 500).body ++ [(armFrame 0 500).check]) = 0 := by decide +kernel

/-! ## One step of commands -/

theorem test_enable : (after (.enable 0 1) (at_ .blocked)).seq.drive = .ready := by decide +kernel
theorem test_enable_empty : (after (.enable 0 1) State.reset).seq.drive = .blocked := by decide +kernel
theorem test_startRun : (after (.startRun 0 1) (at_ .ready)).seq.drive = .running ∧
    (after (.startRun 0 1) (at_ .ready)).lim.breakaway = some 400 := by decide +kernel
theorem test_trip : (after (.trip 30 1 9) (at_ .blocked)).rpt.notices = [⟨.trip, 8, 7, .nobody, 9⟩] := by decide +kernel
theorem test_loadRows : (after (.loadRows 0 1 0 31 1 [1, 2, 2048, 4, 5, 6]) (at_ .running)).sched.dirty = ⟨true, false, false, false⟩ ∧
    (after (.loadRows 0 1 0 31 1 [1, 2, 1023, 4, 5, 6]) (at_ .running)).sched.dirty = DirtySet.empty := by decide +kernel
theorem test_activate_first : (after (.activate 0 1) (schedOf (at_ .blocked) fun c => { c with active := none })).sched.generation = 2 := by
  decide +kernel
theorem test_mark_slip : (after (.mark (markFrame 9)) (late (at_ .running))).intake.slips = 1 ∧
    (after (.mark (markFrame 8)) (late (at_ .running))).intake.slips = 0 := by decide +kernel
theorem test_sample_late : (after (.sampleFrame (armFrame 0 5)) (late (at_ .running))).intake.late = 1 := by decide +kernel
theorem test_vibration : ((after (.vibrationBlock (vibFrame 3)) (at_ .running)).vib.channels[2]).lastSeq = some 3 := by decide +kernel
theorem test_takeover : (after (.takeover (auxFrame kindTakeover)) (at_ .ready)).seq.drive = .auxiliary := by decide +kernel
theorem test_overspeed : isOverspeed bank 26001 = true ∧ isOverspeed bank (-26000) = false ∧
    (after (.sampleFrame (speedFrame 0 26000)) (at_ .ready)).seq.drive = .ready := by decide +kernel

/-! ## Witnesses: steps, frames and the Ring Port -/

/-- The port busy, with frames in the stores named. -/
def ported (buffer pair queue : List RawFrame) (port : Port) : State :=
  rpOf (at_ .running) fun r => { r with buffer := buffer, pair := pair, queue := queue, port := port }

/-- A drive frame to address `dest`. -/
def driveFrame (dest : Addr) : RawFrame := makeFrame dest 5 kindDrive 7 [1, 0, 0]

def noDeadline (s : State) : State := intakeOf s fun i => { i with deadline := .notStarted, markTimer := .stopped }

def counting (t : TurnTimer) (o : OverdueTimer) (r : RecallTimer) : State :=
  seqOf (noDeadline (at_ .ready)) fun q => { q with turnTimer := t, overdue := o, recallTimer := r }

/-- No timer running; then each of the six alone at its last microsecond, in the order of the statement. -/
theorem test_IdleStepCountsTime_premises :
    let due := fun s : State => expiries.map fun e => e.due s.countTimers
    let flushing := fun t : FlushTimer => ({ noDeadline (at_ .ready) with rpt := { Reporter.initial with flush := t } } : State)
    (State.reset.pending = [] ∧ due State.reset = List.replicate 6 false) ∧ (counting .idle .stopped .stopped).pending = [] ∧
    due (intakeOf (noDeadline (at_ .ready)) fun i => { i with deadline := .running 1 }) = [true, false, false, false, false, false] ∧
    due (intakeOf (noDeadline (at_ .ready)) fun i => { i with markTimer := .running 1 }) = [false, true, false, false, false, false] ∧
    due (counting (.counting 1) .stopped .stopped) = [false, false, true, false, false, false] ∧
    due (counting .idle (.counting 1) .stopped) = [false, false, false, true, false, false] ∧
    due (counting .idle .stopped (.counting 1)) = [false, false, false, false, true, false] ∧
    due (flushing (.running 1)) = [false, false, false, false, false, true] := by decide +kernel

theorem test_FramesAreDisposed_errors :
    let long := makeFrame 63 11 kindArmature 7 (List.replicate 65 0)
    let short : RawFrame := { armFrame 0 5 with payload := [] }
    let wrong : RawFrame := { armFrame 0 5 with check := (armFrame 0 5).check + 1 }
    64 < long.lengthField ∧ short.payload.length ≠ short.lengthField ∧
    (wrong.lengthField ≤ 64 ∧ wrong.payload.length = wrong.lengthField ∧ crc wrong.body ≠ wrong.check) := by decide +kernel

theorem test_FramesAreDisposed_disposals :
    let s := at_ .running
    let own := makeFrame 63 5 kindEcho 7 []
    let echo := makeFrame 5 9 kindEcho 7 []
    let stray := makeFrame 5 41 kindTakeover 7 []
    let falseMark := makeFrame 63 1 kindMark 7 []
    let unmapped := makeFrame 63 13 kindArmature 7 [0, 0, 0]
    let through := makeFrame 6 9 kindCommand 7 []
    (cleanFrame own ∧ s.forwardingOnly = false ∧ own.source = s.rp.strap) ∧
    (cleanFrame echo ∧ echo.source ≠ s.rp.strap ∧ echo.dest = s.rp.strap ∧ echo.kindCode ≠ kindCommand ∧
      echo.kindCode ≠ kindTakeover ∧ echo.kindCode ≠ kindReturn) ∧
    (cleanFrame stray ∧ stray.source ≠ s.rp.strap ∧ stray.dest = s.rp.strap ∧ stray.kindCode = kindTakeover ∧
      s.auxAddr ≠ some stray.source) ∧
    (cleanFrame falseMark ∧ falseMark.dest = 63 ∧ falseMark.kindCode = kindMark ∧ falseMark.source ≠ 0) ∧
    (cleanFrame unmapped ∧ unmapped.dest = 63 ∧ unmapped.kindCode ≠ kindMark ∧ s.classify unmapped = none) ∧
    (cleanFrame through ∧ through.source ≠ s.rp.strap ∧ through.dest ≠ s.rp.strap ∧ through.dest ≠ 63) := by decide +kernel

theorem test_ForwardingOnlyForwards_premises :
    (State.initial 0).forwardingOnly = true ∧ (State.initial 63).forwardingOnly = true ∧ (State.initial 1).forwardingOnly = false ∧
    (State.initial 62).forwardingOnly = false ∧ cleanFrame (markFrame 1) ∧ .mark (markFrame 1) ∈ frameCommands (markFrame 1) ∧
    requestOf (.unknownRequest 9 (List.replicate 64 0)) = some (9, List.replicate 64 0) := by decide +kernel

theorem test_ForwardingBuffer_premises :
    let f := markFrame 1
    let three := ported [f, f, f] [] [] (.forwarding f)
    let four := ported [f, f, f, f] [] [] (.forwarding f)
    (three.rp.buffer.length < 4 ∧ three.rp.port ≠ .idle) ∧
    ((at_ .running).rp.buffer = [] ∧ (at_ .running).rp.port = .idle) ∧ 4 ≤ four.rp.buffer.length ∧ four.rp.buffer.length ≤ 4 ∧
    ((ported [f] [] [] .idle).rp.port = .idle ∧ (ported [f] [] [] .idle).rp.buffer = f :: []) := by decide +kernel

theorem test_ArbiterChooses_premises :
    let f := markFrame 1
    let d := driveFrame 11
    let e := makeFrame 0 5 kindNotice 7 [0]
    [ported [f] [d] [e] (.general e), ported [] [d] [e] (.priority d), ported [] [] [e] (.forwarding f),
      ported [] [] [e, e] (.general e), ported [] [] [e] (.general e)].all
      (fun s => s.rp.port != .idle && !s.sendingRestart) = true := by decide +kernel

theorem test_PriorityPairJoins_premises :
    let s := ported [] [driveFrame 11, driveFrame 12] [] (.forwarding (markFrame 1))
    let one := ported [] [driveFrame 12] [] (.forwarding (markFrame 1))
    s.forwardingOnly = false ∧ s.rp.port ≠ .idle ∧
    ((at_ .running).rp.port = .idle ∧ (at_ .running).rp.buffer = [] ∧ (at_ .running).rp.pair = []) ∧
    (s.rp.pair = [driveFrame 11] ++ driveFrame 12 :: [] ∧ sameKindAndDest (driveFrame 12) (driveFrame 12) = true ∧
      sameKindAndDest (driveFrame 12) (driveFrame 11) = false) ∧
    (one.rp.pair.any (sameKindAndDest (driveFrame 11)) = false ∧ one.rp.pair.length < 2) ∧
    (s.rp.pair = [driveFrame 11, driveFrame 12] ∧ s.rp.pair.any (sameKindAndDest (makeFrame 0 5 kindEcho 7 [])) = false) := by
  decide +kernel

theorem test_HeaderFields_boundary :
    let f := makeFrame 62 1 31 0xffff (List.replicate 127 0)
    (31 < 32 ∧ (List.replicate 127 (0 : Word)).length < 128) ∧ f.dest = 62 ∧ f.source = 1 ∧ f.kindCode = 31 ∧ f.lengthField = 127 := by
  decide +kernel

theorem test_FrameCheckCloses_boundary :
    (List.replicate 64 (0 : Word)).length ≤ 64 ∧ cleanFrame (makeFrame 5 0 kindCommand 7 [28, 1]) := by decide +kernel

theorem test_CommandFrameIsRequest_premises :
    requestOf (.unknownRequest 0 (List.replicate 64 0)) = some (0, List.replicate 64 0) ∧ (List.replicate 64 (0 : Word)).length ≤ 64 ∧
    requestOf (.loadRows 30 1 0 0 0 []) = some (30, [22, 1, 0, 0, 0]) ∧ (at_ .running).forwardingOnly = false := by decide +kernel

/-! ## Witnesses: cycles and samples -/

/-- ARM_A already taken in the cycle. -/
def takenA (s : State) : State :=
  intakeOf s fun i => { i with arm := ⟨{ i.arm.a with status := ⟨.fresh, true, 0, false⟩ }, i.arm.b⟩ }

/-- A breakaway allowance with `n` marks left. -/
def allowed (n : Nat) (s : State) : State := { s with lim := { s.lim with breakaway := some n } }

/-- The reference event made. -/
def refMade (s : State) : State := intakeOf s fun i => { i with refMade := true }

theorem test_mark_premises :
    let s := at_ .running
    s.hearsMark (markFrame 8) ∧ .pendingActivationSwap (markFrame 8) ∈ frameCommands (markFrame 8) ∧ s.intake.deadline.isRunning = true ∧
    State.reset.hearsMark (markFrame 8) ∧ State.reset.intake.cycle = none ∧
    (after (.mark (markFrame 8)) State.reset).sched.active = none ∧
    ((late s).hearsMark (markFrame 9) ∧ (late s).intake.cycle = some 7 ∧ (late s).intake.deadline.isRunning = false ∧
      (late s).sched.active = some bank) := by decide +kernel

/-- R87: no deadline expiry owed and no allowance, in the states that send block frames and in one that sends none. -/
theorem test_MarkOpensCycle_blocks :
    [DriveState.blocked, .ready, .auxiliary, .tripped, .running].all (fun d =>
      let s := late (at_ d)
      decide (s.hearsMark (markFrame 8)) && !s.intake.deadline.isRunning && s.lim.breakaway == none && s.seq.drive == d &&
      s.seq.drive.isRunning == (d == .running)) = true := by decide +kernel

theorem test_MarkWritesSnapshot_premises :
    let capturing := fun n => recorderOf (late (at_ .tripped)) fun r => { r with
      slots := r.slots.set 2 { RecordSlot.emptied with state := .capturing, header := { Header.zero with post := n } }
      currentSlot := some 2 }
    let s := capturing 2
    s.hearsMark (markFrame 8) ∧ s.intake.cycle ≠ none ∧ s.sched.active = some bank ∧ s.intake.deadline.isRunning = false ∧
    s.lim.breakaway = none ∧ s.sched.activation = none ∧ s.recorder.capturing = some 2 ∧ bank.dc.g3.postDepth ≤ 2 + 1 ∧
    ((capturing 1).recorder.capturing = some 2 ∧ ¬ bank.dc.g3.postDepth ≤ 1 + 1) := by decide +kernel

theorem test_SamplesDiscarded_premises :
    let s := at_ .running
    let stale : RawFrame := makeFrame 63 11 kindArmature 6 [16, 5, 100]
    (s.hears stale ∧ s.classify stale = some (bank, armEntry) ∧ cycleTaken s.intake armEntry stale = some false ∧
      s.intake.cycle ≠ some stale.tag) ∧
    ((late s).hears (speedFrame 0 5) ∧ (late s).classify (speedFrame 0 5) = some (bank, speedEntry) ∧
      cycleTaken (late s).intake speedEntry (speedFrame 0 5) = some false ∧ (late s).intake.cycle = some (speedFrame 0 5).tag ∧
      (late s).intake.deadline.isRunning = false) ∧
    ((takenA s).hears (armFrame 0 5) ∧ (takenA s).classify (armFrame 0 5) = some (bank, armEntry) ∧
      cycleTaken (takenA s).intake armEntry (armFrame 0 5) = some true ∧ (takenA s).intake.cycle = some (armFrame 0 5).tag ∧
      (takenA s).intake.deadline.isRunning = true) := by decide +kernel

theorem test_ArmatureTaken_premises :
    (at_ .running).takesSample (armFrame 0 500) bank armEntry ∧ armEntry.role = .arm .a ∧ (armFrame 0 500).payload = [16, 500, 100] ∧
    bitsOf 16 0 4 = 0 ∧ (at_ .running).intake.refMade = false := by decide +kernel

theorem test_ConverterFaultTrips_premises :
    (at_ .ready).takesSample (armFrame 15 500) bank armEntry ∧ (armFrame 15 500).payload = [31, 500, 100] ∧
    bitsOf 31 0 4 ≠ 0 ∧ (at_ .ready).intake.refMade = false ∧ (at_ .ready).seq.drive ≠ .blocked ∧
    (at_ .ready).seq.drive ≠ .tripped := by decide +kernel

theorem test_SpeedTaken_premises :
    let taken := fun (s : State) (w v : Word) =>
      decide (s.takesSample (speedFrame w v) bank speedEntry) && (speedFrame w v).payload == [w, v, 100]
    let near := fun s => seqOf s fun q => { q with lastAngle := some 99, movement := 1023, advance := 1023 }
    (taken (at_ .ready) 1 500 = true ∧ (1 : Word).getLsbD 0 = true) ∧
    (taken (at_ .ready) 0 26001 = true ∧ (0 : Word).getLsbD 0 = false ∧ bank.dc.g0.overspeed < ((26001 : Word).toInt).natAbs) ∧
    (taken (near (at_ .turning)) 0 30 = true ∧ 1024 ≤ bank.dc.g1.turnAngle ∧ bank.dc.g1.turnAngle ≤ 1023 + 100 - 99 ∧
      (near (at_ .turning)).intake.markLoss = false) ∧
    (taken (near (at_ .running)) 0 160 = true ∧ bank.dc.g1.movingSpeed ≤ 160) ∧ taken (near (at_ .stopping)) 0 0 = true ∧
    (taken (allowed 3 (at_ .running)) 0 160 = true ∧ (allowed 3 (at_ .running)).lim.breakaway ≠ none) := by decide +kernel

theorem test_ReferenceEvents_premises :
    [DriveState.blocked, .ready, .running, .turning, .stopping, .auxiliary, .tripped].all (fun d =>
      let s := at_ d
      let f := refFrame 1 0x8000
      decide (s.takesSample f bank refEntry) && refEntry.role == .ref && f.payload == [1, 0x8000] && !s.intake.refMade &&
      !s.intake.arm.a.status.taken && !s.intake.arm.b.status.taken) = true := by decide +kernel

/-- With `a` and `b` the motors' limited flags of the event before. -/
def limitedBefore (a b : Bool) (s : State) : State := { s with split := { s.split with prevLimited := ⟨a, b⟩ } }

/-- R62: a reference of 32767 limits both motors; one whose flag was set stays limited. -/
theorem test_ReferenceEvents_newly :
    [(false, true), (true, false), (true, true)].all (fun (a, b) =>
      let s := limitedBefore a b (at_ .running)
      let t := after (.sampleFrame (refFrame 1 0x7fff)) s
      decide (s.takesSample (refFrame 1 0x7fff) bank refEntry) && s.split.imbalanceCount == 0 && s.split.prevLimited == ⟨a, b⟩ &&
      t.lim.motor.a.limited && t.lim.motor.b.limited) = true := by decide +kernel

/-- Both newly: the shares of 32767 are 16384 and 16383. -/
theorem test_ReferenceEvents_newly_both :
    let s := at_ .running
    let limited := fun (m : Motor) (t : Int) =>
      ((s.lim.motor.get m).afterSplit (s.limitsOf bank m) t row.flux g0.imax).limited
    s.takesSample (refFrame 1 0x7fff) bank refEntry ∧ s.split.prevLimited = ⟨false, false⟩ ∧
    limited .a 16384 = true ∧ limited .b 16383 = true := by decide +kernel

/-- Two FRESH armatures 601 apart, with one event short of imbalance_cycles, in a bank of this class for IMBALANCE. -/
def unbalanced (c : CauseClass) : State :=
  let s := with_ { bank with dc := { bank.dc with g3 := { g3 with classes := g3.classes.set 7 c } } } .running
  { s with
    split := { s.split with imbalanceCount := 2 }
    intake := { s.intake with arm := ⟨⟨0, 0, true, 0, ⟨.fresh, false, 0, false⟩⟩, ⟨601, 0, true, 0, ⟨.fresh, false, 0, false⟩⟩⟩ } }

theorem test_ReferenceEvents_raises :
    [CauseClass.trip, .warn, .ignore].all (fun c =>
      let s := unbalanced c
      (s.sched.active.any fun b => decide (s.takesSample (refFrame 0 0) b refEntry) && b.dc.g3.classes[7] == c) &&
      s.split.prevLimited == ⟨false, false⟩ && s.split.imbalanceCount + 1 == bank.dc.g0.imbalanceCycles &&
      decide (bank.dc.g0.imbalanceLimit < 601)) = true := by decide +kernel

/-- The other motor's event made, this one's measured torque of the event before, and a bank of this shock and saturation setting. -/
def regulating (d : DriveState) (torque : Option MeasuredTorque) (flagged : Nat) (c : CauseClass) : State :=
  let s := with_ { bank with dc := { bank.dc with g3 := { g3 with classes := g3.classes.set 0 c } } } d
  { s with
    intake := { s.intake with refMade := true, regMade := ⟨false, true⟩ }
    reg := ⟨{ s.reg.a with satCount := flagged }, s.reg.b⟩
    lim := { s.lim with
      motor := ⟨{ s.lim.motor.a with prevTorque := torque }, s.lim.motor.b⟩
      shocks := [⟨.b, 5, 2⟩, ⟨.a, 6, 1⟩] } }

theorem test_ArmatureRegulates_premises :
    let takes := fun (s : State) (current : Word) => (s.sched.active.any fun b =>
        decide (s.takesSample (armFrame 0 current) b armEntry) && b.armAddr .a == some 11) &&
      (armFrame 0 current).payload == [16, current, 100] && s.intake.refMade && !s.intake.regMade.a &&
      s.intake.regMade.set .a true == ⟨true, true⟩
    let quiet := regulating .running none 0 .trip
    bitsOf 16 0 4 = 0 ∧ bank.dc.g0.iTrip = 9000 ∧
    (takes quiet 9000 = true ∧ raisesSaturation quiet.reg.a (regulateLoop 0 1536 96 4300 0 9000).flagged 40 = false) ∧
    ([CauseClass.trip, .warn].all (fun c => takes (regulating .running none 39 c) 9000) = true ∧
      (regulateLoop 0 1536 96 4300 0 9000).flagged = true ∧ 40 ≤ min 1000 (39 + 1)) ∧ takes quiet 9001 = true ∧
    (takes (regulating .running (some ⟨0, .fresh, 1⟩) 0 .trip) 2002 = true ∧
      isShock (some ⟨0, .fresh, 1⟩) (measuredTorque 2002 3072) .fresh 1500 = true ∧
      isShock (some ⟨0, .fresh, 1⟩) (measuredTorque 2001 3072) .fresh 1500 = false ∧ bank.dc.g0.shockTripCount ≤ 2 + 1 ∧
      bank.dc.g3.classes[2] = .trip ∧ bank.dc.g2.pinion[0] = .a ∧ bank.dc.g2.discardOnShock[0] = true) ∧
    [DriveState.blocked, .ready, .auxiliary, .tripped].all (fun d =>
      takes (regulating d none 0 .trip) 9000 && takes (regulating d none 0 .trip) 9001) = true := by decide +kernel

theorem test_RegulationBounded_premises :
    ((705000 : Int).natAbs ≤ 256 * 4300 ∧ (regulateLoop 705000 1536 96 4300 5461 5200).acc = 705000) ∧
    ((-1100800 : Int).natAbs ≤ 256 * 4300 ∧ (regulateLoop (-1100800) 0 96 4300 0 1).flagged = true) ∧
    ((0 : Int).natAbs ≤ 0 ∧ (regulateLoop 0 0 0 0 1 1).flagged = false) := by decide +kernel

/-- Every role one miss short of its limit, in a bank of this class for REFERENCE_LOSS. -/
def missing (d : DriveState) (c : CauseClass) : State :=
  let s := with_ { bank with dc := { bank.dc with g3 := { g3 with classes := g3.classes.set 6 c } } } d
  let short := fun n => (⟨.held, false, n, false⟩ : RoleStatus)
  intakeOf s fun i => { i with
    arm := ⟨{ i.arm.a with status := short 2 }, i.arm.b⟩
    ref := ⟨0, short 4⟩ }

theorem test_DeadlineExpires_premises :
    (at_ .running).intake.deadline.isRunning = true ∧ (at_ .running).sched.active = some bank ∧
    (takenA (at_ .running)).intake.arm.a.status.taken = true ∧ (takenA (at_ .running)).intake.arm.b.status.taken = false ∧
    [CauseClass.trip, .warn, .ignore].all (fun c => [DriveState.blocked, .ready, .running].all fun d =>
      let s := missing d c
      s.intake.deadline.isRunning && s.sched.active.any (fun b => b.dc.g3.classes[6] == c) && s.seq.drive == d &&
      !s.tru.standing.sampleLoss && !s.tru.standing.referenceLoss && !s.forwardingOnly && s.intake.regMade != ⟨true, true⟩ &&
      decide (bank.dc.g1.missLimit ≤ min 255 (2 + 1)) && decide (bank.dc.g1.refLossLimit ≤ min 255 (4 + 1))) = true := by
  decide +kernel

/-- Slot 2 in record state `x`, with a record of `n` snapshots before and none after its trip. -/
def recorded (d : DriveState) (x : RecordState) (n : Nat) : State :=
  recorderOf (at_ d) fun r => { r with
    slots := r.slots.set 2 { RecordSlot.emptied with state := x, header := { Header.zero with seq := 9, pre := n } }
    currentSlot := some 2 }

theorem test_MarkTimerExpires_premises :
    [DriveState.blocked, .ready, .auxiliary, .running, .turning, .stopping].all (fun d =>
      (late (at_ d)).intake.markTimer == .running 20000 && !(late (at_ d)).intake.deadline.isRunning &&
      (late (at_ d)).seq.drive == d) = true ∧
    (let s := late (recorded .tripped .capturing 4)
     s.intake.markTimer = .running 20000 ∧ s.intake.deadline.isRunning = false ∧ s.seq.drive = .tripped ∧
     s.recorder.slots[2].state = .capturing ∧ ∀ j : Fin 8, j < 2 → s.recorder.slots[j].state ≠ .capturing) := by decide +kernel

theorem test_MarkTimerExpires_owed :
    (at_ .running).intake.markTimer = .running 20000 ∧ (at_ .running).intake.deadline.isRunning = true := by decide +kernel

/-- A mark-loss condition stands. -/
def lost (s : State) : State := intakeOf s fun i => { i with markLoss := true }

theorem test_MarkLossTripsEntry_premises :
    [DriveState.ready, .stopping, .running, .turning].all (fun d =>
      decide ((lost (at_ d)).takesFrom master) && (lost (at_ d)).intake.markLoss) = true := by decide +kernel

/-! ## Witnesses: the schedule banks -/

def frozen (s : State) : State := schedOf s fun c => { c with frozen := true }
def activating (s : State) : State := schedOf s fun c => { c with activation := some .driveMaster }

theorem test_managers_take :
    [DriveState.blocked, .ready, .running, .turning, .stopping, .auxiliary, .tripped].all (fun d =>
      decide ((at_ d).takesFrom master) && decide ((at_ d).takesFrom station) && decide ((operated d).takesFrom operator)) = true := by
  decide +kernel

theorem test_schedule_premises :
    (frozen (at_ .running)).takesFrom station ∧ (frozen (at_ .running)).sched.frozen = true ∧
    (activating (at_ .running)).takesFrom station ∧ (activating (at_ .running)).sched.frozen = false ∧
    (activating (at_ .running)).sched.activation ≠ none ∧ (at_ .running).sched.frozen = false ∧
    (at_ .running).sched.activation = none := by decide +kernel

theorem test_LoadRowsTaken_rows :
    Table.ofCode 3 = some .driveConstants ∧ Table.ofCode 4 = none ∧ Table.speedSchedule.maxCount = 9 ∧
    (Bank.zero.loadRows .speedSchedule 31 1 [1, 2, 2048, 4, 5, 6]).isSome = true ∧ 31 + 1 ≤ Table.speedSchedule.rows ∧
    Table.speedSchedule.rows < 31 + 2 ∧ Bank.zero.loadRows .speedSchedule 31 1 [1, 2, 2048, 4, 5] = none ∧
    (Bank.zero.loadRows .speedSchedule 23 9 (List.replicate 54 1024)).isSome = true := by decide +kernel

/-- R23 to R26, R194: rows at the ends of their ranges, and one past them. -/
theorem test_LoadRowsTaken_ranges :
    rowInRange .speedSchedule 31 [4095, 0, 1024, 4096, 12288, 0] ∧ ¬ rowInRange .speedSchedule 31 [4096, 0, 1024, 4096, 12288, 0] ∧
    ¬ rowInRange .speedSchedule 0 [0, 0, 1023, 0, 0, 0] ∧ rowInRange .slotMap 0 [0, 0, 0] ∧ ¬ rowInRange .slotMap 0 [1, 0, 0] ∧
    rowInRange .vibThresholds 3 (List.replicate 24 0xffff) ∧
    rowInRange .driveConstants 3 [512, 0, 255, 0xaaaa, 0, 0x7fff, 0, 8, 1000, 4] ∧
    ¬ rowInRange .driveConstants 3 [512, 0, 255, 0xaab3, 0, 0x7fff, 0, 8, 1000, 4] := by
  refine ⟨?_, ?_, ?_, ?_, ?_, ?_, ?_, ?_⟩ <;> rw [← Bank.loadRow_ne_none Bank.zero _ _ (by decide)] <;> decide +kernel

theorem test_LoadRowsTaken_loads :
    (bank.loadRows .speedSchedule 31 1 [4095, 0, 1024, 4096, 12288, 0]).isSome = true ∧
    bank.loadRows .speedSchedule 0 1 [0, 0, 1023, 0, 0, 0] = none ∧ bank.loadRows .driveConstants 4 0 [] ≠ none := by decide +kernel

theorem test_ReadRowsTaken_premises :
    (1 : Word).toNat ≤ 1 ∧ (schedOf (at_ .blocked) fun c => { c with staged := none }).sched.staged = none ∧
    (schedOf (at_ .blocked) fun c => { c with staged := none }).takesFrom master := by decide +kernel

theorem test_ActivateTaken_premises :
    let dirty := fun s => schedOf s fun c => { c with dirty := ⟨false, false, true, false⟩ }
    let bad := fun s => schedOf s fun c => { c with staged := none }
    ((dirty (at_ .ready)).takesFrom master ∧ (dirty (at_ .ready)).sched.dirty.slotMap = true) ∧
    ((bad (at_ .blocked)).takesFrom master ∧ Bank.zero.failure 5 = some ⟨3, 0, 0⟩) ∧
    ((dirty (at_ .blocked)).takesFrom master ∧ (dirty (at_ .blocked)).sched.staged = some bank ∧ bank.failure 5 = none) ∧
    ((at_ .ready).takesFrom master ∧ (at_ .ready).sched.dirty.slotMap = false) ∧
    (let moved : Bank := { bank with slots := bank.slots.set 4 { vibEntry with slot := false } }
     let s := schedOf (at_ .blocked) fun c => { c with staged := some moved }
     s.takesFrom master ∧ s.seq.drive = .blocked ∧ moved.failure s.rp.strap = none ∧
     moved.slots[4].role = bank.slots[4].role ∧ moved.slots[4].slot ≠ bank.slots[4].slot ∧ s.rpt.notices.length < 32) := by
  decide +kernel

theorem test_PendingSwapAtMark_premises :
    let s := activating (late (at_ .running))
    s.hearsMark (markFrame 8) ∧ s.intake.deadline.isRunning = false ∧ s.sched.activation = some .driveMaster ∧
    s.sched.staged = some bank := by decide +kernel

theorem test_FreezePinRelease_premises :
    (31 : Word).toNat = (31 : Fin 32).val ∧ 32 ≤ (32 : Word).toNat ∧ (at_ .turning).sched.active ≠ none ∧
    State.reset.sched.active = none ∧ State.reset.takesFrom master := by decide +kernel

/-! ## Witnesses: vibration, shocks, run control -/

/-- Channel 2 with this last sequence and open window. -/
def windowed (d : DriveState) (last : Option Nat) (w : Window) : State :=
  (at_ d).setChannel 2 { Channel.initial with lastSeq := last, tracker := some 0, window := w }

theorem test_VibrationBlocks_premises :
    let f := vibFrame 47
    let s := windowed .running (some 48) Window.empty
    (s.hears f ∧ s.classify f = some (bank, vibEntry) ∧ vibEntry.role = .vib 2 ∧ f.payload = [303, 0, 1, 2, 3, 4, 5, 6, 7, 8] ∧
      127 < (bitsOf 303 0 8 + 255 - 48) % 256) ∧
    ((windowed .running (some 175) Window.empty).hears f ∧ (bitsOf 303 0 8 + 255 - 175) % 256 = 127) ∧
    ((windowed .running (some 46) ⟨9, 64, 8, 6, 3, 0⟩).hears f ∧ (bitsOf 303 0 8 + 255 - 46) % 256 = 0 ∧ 8 + 6 + 0 + 1 < 16) ∧
    ((windowed .running none ⟨9, 55, 7, 8, 3, 0⟩).hears f ∧ 16 ≤ 7 + 8 + 1 ∧ 55 + 8 < 16 * 4) ∧
    ((windowed .running none ⟨9, 56, 7, 8, 3, 0⟩).hears f ∧ ¬ 56 + 8 < 16 * 4) ∧ DriveState.running.isRunning = true ∧
    ((windowed .ready none ⟨9, 56, 7, 8, 3, 0⟩).classify f = some (bank, vibEntry) ∧ DriveState.ready.isRunning = false) := by
  decide +kernel

/-- R96: lost blocks that fill the window, VOID and compared, and ones that the block must fill. -/
theorem test_VibrationBlocks_lost :
    let f := vibFrame 47
    let opens := fun (d : DriveState) (p : Nat) (w : Window) =>
      let s := windowed d (some p) w
      decide (s.hears f ∧ s.classify f = some (bank, vibEntry)) && (bitsOf 303 0 8 + 255 - p) % 256 == 2
    (opens .running 44 ⟨9, 64, 9, 12, 3, 2⟩ = true ∧ 16 ≤ 12 + 2 + 2 ∧ ¬ 64 < 16 * 4) ∧
    (opens .running 44 ⟨9, 63, 9, 12, 3, 2⟩ = true ∧ 63 < 16 * 4) ∧ opens .stopping 44 ⟨9, 64, 9, 12, 3, 2⟩ = true ∧
    opens .ready 44 ⟨9, 64, 9, 12, 3, 2⟩ = true ∧
    (opens .running 44 ⟨9, 64, 9, 11, 3, 2⟩ = true ∧ 11 + 2 + 2 < 16 ∧ 16 ≤ 11 + 2 + 2 + 1) ∧
    (opens .running 44 ⟨9, 64, 9, 10, 3, 2⟩ = true ∧ 10 + 2 + 2 + 1 < 16) ∧ 2 ≤ bank.dc.g2.vibWindow := by decide +kernel

/-- The cell of the sample bank has release level 87500. -/
theorem test_ConfirmationRules_premises :
    let cell : VibCell := ⟨100, 100000, 200000⟩
    let c := fun (st : Confirmed) (n : Nat) => (⟨st, n, n, n, n, n, false⟩ : Confirmation)
    (1 ≤ g2.confirmWindows ∧ 1 ≤ g2.releaseWindows ∧ 1 ≤ g2.deadWindows) ∧ releaseLevel g2 cell = 87500 ∧
    ((c .normal 1).step g2 cell .aboveAlarm 200000).2 = [.alarmEntry] ∧ ((c .normal 1).step g2 cell .aboveWarn 199999).2 = [.warningEntry] ∧
    ((c .warning 1).step g2 cell .normal 87499).1.state = .normal ∧
    ((c .warning 1).step { g2 with vibLatch := true } cell .normal 87499).1.state = .warning ∧
    ((c .normal 1).step g2 cell .belowDead 99).2 = [.deadEntry] ∧ ((c .dead 1).step g2 cell .belowDead 99).1.state = .dead ∧
    ((c .dead 1).step g2 cell .normal 100).1.state = .normal ∧ 87500 ≤ 200000 ∧ 0 < g2.persistWindows ∧
    ((c .alarm 3).step g2 cell .aboveAlarm 200000).2 = [.persists] := by decide +kernel

/-- R101: section 6.10's release level, warn_hi 1500 with hysteresis 32. -/
theorem test_release_level : releaseLevel g2 ⟨50, 1500, 6000⟩ = 1313 := by decide +kernel

theorem test_ShockMarkActions_premises :
    let s := allowed 2 (late (at_ .running))
    .shockHoldExpiry (markFrame 8) ∈ frameCommands (markFrame 8) ∧ .shockEntryAgedOut (markFrame 8) ∈ frameCommands (markFrame 8) ∧
    s.hearsMark (markFrame 8) ∧ s.intake.deadline.isRunning = false ∧ s.lim.breakaway = some (0 + 2) ∧
    (late (at_ .running)).lim.breakaway = none := by decide +kernel

theorem test_BreakawayExpires_premises :
    [CauseClass.trip, .warn, .ignore].all (fun c =>
      let b := bankOf .commission c
      let s := allowed 1 (late (with_ b .running))
      decide (s.hearsMark (markFrame 8)) && !s.intake.deadline.isRunning && s.sched.active == some b &&
      s.sched.activation == none && s.lim.breakaway == some 1 && b.dc.g3.classes[3] == c) = true := by decide +kernel

theorem test_runControl_premises :
    (at_ .blocked).takesFrom station ∧ station.manager ≠ .driveMaster ∧
    ((at_ .blocked).takesFrom master ∧ (at_ .blocked).seq.drive = .blocked ∧ (at_ .blocked).sched.active ≠ none ∧
      (at_ .blocked).tru.declared = false) ∧
    ((at_ .running).takesFrom master ∧ (at_ .running).intake.markLoss = false ∧ (at_ .running).seq.pendingTakeover = false) ∧
    ((at_ .turning).takesFrom master ∧ (at_ .turning).seq.drive = .turning) := by decide +kernel

/-- In STOPPING with a takeover pending. -/
def takenOver (s : State) : State := seqOf s fun q => { q with pendingTakeover := true }

theorem test_StartsTaken_premises :
    ([DriveState.ready, .stopping, .running].all (fun d =>
      decide ((at_ d).takesFrom master) && (at_ d).sched.active == some bank && !(at_ d).intake.markLoss &&
      !(at_ d).seq.pendingTakeover) = true) ∧
    ((takenOver (at_ .stopping)).takesFrom master ∧ (takenOver (at_ .stopping)).seq.pendingTakeover = true ∧
      (takenOver (at_ .stopping)).auxAddr = some 40) := by decide +kernel

/-- One sample short of stop_confirm with a takeover pending, a turn due or not. -/
def turnPending (due : Bool) : State := seqOf (takenOver (at_ .stopping)) fun q => { q with stopCount := 1, turnDue := due }

theorem test_StopConfirmed_premises :
    let s := at_ .stopping
    let t := seqOf s fun q => { q with stopCount := 1 }
    (s.takesSample (speedFrame 0 48) bank speedEntry ∧ (speedFrame 0 48).payload = [0, 48, 100] ∧ (0 : Word).getLsbD 0 = false ∧
      s.seq.drive = .stopping ∧ s.seq.pendingTakeover = false ∧ (speedEntry.condition 48).natAbs ≤ bank.dc.g1.standstillSpeed ∧
      min 10000 (s.seq.stopCount + 1) < bank.dc.g1.stopConfirm) ∧
    (t.takesSample (speedFrame 0 48) bank speedEntry ∧ bank.dc.g1.stopConfirm ≤ min 10000 (t.seq.stopCount + 1)) ∧
    (t.takesSample (speedFrame 0 49) bank speedEntry ∧ bank.dc.g1.standstillSpeed < 49 ∧ 49 ≤ bank.dc.g0.overspeed) := by decide +kernel

theorem test_StopConfirmed_pending :
    ((turnPending true).takesSample (speedFrame 0 48) bank speedEntry ∧ (turnPending true).auxAddr = some 40 ∧
      (turnPending true).seq.turnDue = true) ∧
    ((turnPending false).takesSample (speedFrame 0 48) bank speedEntry ∧ (turnPending false).auxAddr = some 40 ∧
      (turnPending false).seq.turnDue = false) ∧ (0 : Int).natAbs < bank.dc.g1.turnAngle := by decide +kernel

theorem test_HotStopRequests_premises :
    State.reset.takesFrom master ∧ State.reset.sched.active = none ∧ (at_ .ready).sched.active = some bank ∧
    (at_ .ready).seq.hot = false ∧
    (seqOf (at_ .ready) fun q => { q with hot := true }).takesFrom station := by decide +kernel

theorem test_HotStopTimersExpire_premises :
    let t := seqOf (at_ .auxiliary) fun q => { q with turnTimer := .counting 0 }
    (counting (.counting 0) (.counting 0) (.counting 0)).sched.active = some bank ∧
    (counting (.counting 0) (.counting 0) (.counting 0)).seq.drive = .ready ∧
    (t.sched.active = some bank ∧ t.seq.drive = .auxiliary ∧ t.seq.grant = .granted ∧ t.auxAddr = some 40) := by decide +kernel

theorem test_HotStopTimersExpire_recalling :
    let t := seqOf (at_ .auxiliary) fun q => { q with turnTimer := .counting 0, grant := .recalling }
    t.seq.turnTimer = .counting 0 ∧ t.sched.active = some bank ∧ t.seq.drive = .auxiliary ∧ t.seq.grant = .recalling ∧
    t.auxAddr = some 40 := by decide +kernel

theorem test_AuxiliaryFrames_premises :
    let hot := seqOf (at_ .auxiliary) fun q => { q with hot := true, turnTimer := .expired, grant := .recalling }
    let tripped := seqOf (at_ .tripped) fun q => { q with grant := .granted }
    (at_ .ready).hearsAux (auxFrame kindTakeover) ∧ (auxFrame kindTakeover).kindCode = kindTakeover ∧
    (at_ .ready).restartPending = false ∧ (at_ .ready).seq.grant = .none ∧ (at_ .ready).seq.turnDue = false ∧
    (at_ .auxiliary).seq.grant = .granted ∧ hot.hearsAux (auxFrame kindReturn) ∧ (auxFrame kindReturn).kindCode = kindReturn ∧
    (hot.seq.grant = .recalling ∧ hot.seq.drive = .auxiliary ∧ hot.seq.hot = true ∧ hot.seq.turnTimer = .expired) ∧
    (tripped.hearsAux (auxFrame kindReturn) ∧ tripped.seq.grant = .granted ∧ tripped.seq.drive = .tripped) ∧
    ({ at_ .blocked with rqh := (at_ .blocked).rqh.set .driveMaster ⟨⟨.restarting, 0, 1⟩, false, []⟩ } : State).restartPending = true := by
  decide +kernel

theorem test_AuxiliaryFrames_due :
    [DriveState.auxiliary, .tripped].all (fun d =>
      let s := seqOf (at_ d) fun q => { q with hot := true, turnTimer := .expired, grant := .recalling }
      decide (s.hearsAux (auxFrame kindReturn)) && (auxFrame kindReturn).kindCode == kindReturn && s.seq.drive == d &&
      s.seq.overdue == .stopped && s.sched.active == some bank) = true := by decide +kernel

/-! ## Witnesses: trips and records -/

/-- A declared trip with first cause OVERSPEED and these later causes. -/
def tripped (later : List (Cause × Nat)) : State :=
  let s := at_ .tripped
  { s with tru := { s.tru with first := some ⟨.overspeed, .nobody, 26001⟩, later := later } }

def four : List (Cause × Nat) := [(.converterA, 0), (.converterB, 0), (.saturationA, 1), (.imbalance, 65535)]

theorem test_RaiseTable_premises :
    ((at_ .running).classOf .sensorDead = .ignore ∧ (at_ .running).classOf .saturationB = .warn ∧
      (at_ .running).classOf .external = .trip ∧ State.reset.classOf .imbalance = .ignore) ∧
    ((at_ .blocked).seq.drive = .blocked ∧ (at_ .running).seq.drive ≠ .blocked ∧ (at_ .running).seq.drive ≠ .tripped) ∧
    ((tripped four).seq.drive = .tripped ∧ 4 ≤ (tripped four).tru.later.length ∧ (tripped four).tru.known .imbalance = true ∧
      (tripped four).tru.known .external = false ∧ (tripped four.tail).tru.later.length < 4 ∧ Cause.external ≠ .cycleLost) ∧
    ((at_ .tripped).classOf .cycleLost = .trip ∧ (tripped four).tru.known .cycleLost = false ∧
      (tripped [(.cycleLost, 3)]).tru.known .cycleLost = true ∧ (recorded .tripped .capturing 4).seq.drive = .tripped ∧
      (recorded .tripped .capturing 4).recorder.currentSlot = some 2 ∧
      (recorded .tripped .capturing 4).recorder.capturing = some 2) := by decide +kernel

theorem test_TripRequested_premises :
    (at_ .auxiliary).takesFrom station ∧ (at_ .auxiliary).seq.drive ≠ .blocked ∧ (at_ .auxiliary).seq.drive ≠ .tripped ∧
    (at_ .blocked).takesFrom master ∧ (tripped four).takesFrom master ∧
    (tripped four).tru.known .external = false ∧ (tripped [(.external, 3)]).tru.known .external = true ∧
    (tripped four.tail).takesFrom master ∧
    ((takenOver (at_ .stopping)).takesFrom station ∧ (takenOver (at_ .stopping)).auxAddr = some 40) := by decide +kernel

theorem test_TripRequested_running :
    [DriveState.running, .turning, .stopping].all (fun d =>
      decide ((at_ d).takesFrom station) && (at_ d).seq.drive.isRunning && (at_ d).converter .a == some 11 &&
      (at_ d).converter .b == some 12) = true := by decide +kernel

theorem test_TripAcknowledged_premises :
    (operated .tripped).takesFrom operator ∧ operator.level = .operate ∧ (at_ .ready).takesFrom master ∧
    ((recorded .tripped .capturing 4).takesFrom station ∧ (recorded .tripped .capturing 4).recorder.currentSlot = some 2 ∧
      (recorded .tripped .capturing 4).recorder.capturing = some 2) ∧
    ((lost (at_ .tripped)).takesFrom master ∧ (lost (at_ .tripped)).lowestStanding = some .cycleLost) ∧
    ((at_ .tripped).takesFrom master ∧ (at_ .tripped).lowestStanding = none) := by decide +kernel

theorem test_CaptureStarts_premises :
    let full := recorderOf (at_ .running) fun r => { r with slots := Vector.replicate 8 { RecordSlot.emptied with locked := true } }
    ((at_ .running).takesFrom master ∧ (at_ .running).seq.drive ≠ .blocked ∧ (at_ .running).seq.drive ≠ .tripped ∧
      (at_ .running).sched.active = some bank ∧ (at_ .running).recorder.chooseSlot = some 0) ∧
    (full.takesFrom master ∧ full.recorder.chooseSlot = none) := by decide +kernel

theorem test_RecordRequests_premises :
    (at_ .running).takesFrom station ∧ (operated .running).takesFrom operator ∧ (255 : Word).toNat ≤ 255 ∧ 255 < (256 : Word).toNat ∧
    8 ≤ (8 : Word).toNat ∧ (7 : Word).toNat = (7 : Fin 8).val ∧ (at_ .running).recorder.slots[7].state = .empty ∧
    (recorded .running .complete 4).takesFrom station ∧ (recorded .running .complete 4).recorder.slots[2].state ≠ .empty ∧
    ((recorded .running .complete 4).recorder.slots[2]).erasable = true := by decide +kernel

/-- A readout of slot 2 by the drive master. -/
def reading (abortAnswering : Bool) (r : ReadoutData → Readout) : State :=
  let s := recorderOf (recorded .ready .complete 512) fun x => { x with readout := r ⟨.driveMaster, 0, 2, 508, 4, 0, false, 4⟩ }
  { s with rqh := s.rqh.set .driveMaster ⟨⟨.reading, 0, 1⟩, abortAnswering, []⟩ }

theorem test_ReadRecordTaken_premises :
    (recorded .ready .complete 512).takesFrom master ∧ (recorded .ready .complete 512).recorder.readout = .idle ∧
    (511 : Word).toNat + (1 : Word).toNat ≤ 512 ∧ 511 < (512 : Word).toNat ∧ (512 : Word).toNat ≤ 512 ∧
    (recorded .ready .capturing 4).takesFrom master ∧ (at_ .ready).recorder.slots[2].state = .empty ∧
    ((reading false .sending).takesFrom station ∧ (reading false .sending).recorder.readout ≠ .idle) ∧
    ((reading false .closing).forwardingOnly = false ∧ master.addr ≠ (reading false .closing).rp.strap ∧
      (reading false .closing).managerOf master.addr = some (.driveMaster, .commission) ∧
      (reading false .closing).restartPending = false ∧ ((reading false .closing).rqh.get .driveMaster).replies.length < 4 ∧
      ((reading false .closing).rqh.get .driveMaster).holder.state = .reading ∧
      ((reading false .closing).rqh.get .driveMaster).abortAnswering = false) := by decide +kernel

/-- A place has fallen free with these producers ready at it. -/
def fell (ws : List Waiter) (s : State) : State := rpOf s fun r => { r with waiters := [ws] }

/-- The Recorder may take a place it is owed, and one that has fallen free since it took its own. -/
theorem test_ReadoutFrames_premises :
    let sent : ReadoutData := ⟨.driveMaster, 0, 2, 508, 4, 0, false, 4⟩
    (∀ s ∈ [reading false .sending, fell [⟨.record, true⟩] (reading false .sending),
        fell [⟨.record, false⟩, ⟨.aux, true⟩] (reading false .closing)],
      s.forwardingOnly = false ∧ s.rp.queue.length < 16 ∧ ¬ s.mustWait .record ∧ s.rp.queue = []) ∧
    (((reading false .sending).rqh.get .driveMaster).holder.state = .reading ∧
      (reading false .sending).recorder.readout = .sending sent) ∧
    (reading false .closing).recorder.readout = .closing sent ∧ (at_ .ready).recorder.readout = .idle := by
  refine ⟨?_, by decide +kernel⟩
  intro s h
  refine ⟨?_, ?_, ((s.mayTake_iff .record).1 ?_).2.2, ?_⟩ <;>
    (simp only [List.mem_cons, List.not_mem_nil, or_false] at h; rcases h with rfl | rfl | rfl <;> decide +kernel)

/-! ## Witnesses: requests, queue places, resets -/

/-- The drive master's holder and reply list as given. -/
def holding (h : HolderState) (replies : List Reply) : State :=
  { at_ .running with rqh := (at_ .running).rqh.set .driveMaster ⟨⟨h, 0, 1⟩, false, replies⟩ }

def busyReply : Reply := ⟨0, 4, 1, .busy, [], 7, .refusal⟩
def doneReply (kind : Word) : Reply := ⟨0, kind, 1, .done, [], 7, .answer⟩

theorem test_RequestsRefused_premises :
    requestOf (.unknownRequest 9 [1]) = some (9, [1]) ∧ ([1] : List Word).length < 2 ∧ (9 : Addr) ≠ 5 ∧
    (at_ .running).managerOf 9 = none ∧ (holding .restarting []).restartPending = true ∧
    4 ≤ ((holding .answering (List.replicate 4 busyReply)).rqh.get .driveMaster).replies.length ∧
    ((holding .answering (doneReply 4 :: List.replicate 2 busyReply)).restartPending = false ∧
      (List.replicate 2 busyReply).countP (fun r => r.purpose == .refusal) ≤ 2) ∧
    2 < (List.replicate 3 busyReply).countP (fun r => r.purpose == .refusal) ∧
    ((holding .reading [busyReply]).managerOf 0 = some (.driveMaster, .commission)) ∧
    ((at_ .running).takesFrom master ∧ requestOf (.unknownRequest 0 [29, 1]) = some (0, [29, 1])) := by decide +kernel

theorem test_ReportsAnswered_premises :
    (operated .running).takesFrom operator ∧ (at_ .running).highestPending = none ∧
    12 < (13 : Word).toNat ∧ (12 : Word).toNat ≤ 12 ∧
    ((at_ .running).raiseAttention ⟨.shock, 0, .nobody, 0⟩).highestPending = some .shock ∧
    (∀ k : Fin 15, (at_ .running).rpt.attention[k] = false) ∧
    (((at_ .running).taking master 1).page 12).isSome = true := by decide +kernel

/-- A REPLY of the drive master waits behind a notice that was ready at the one fall of a place. -/
theorem test_FramesQueued_premises :
    let notice : Notice := ⟨.shock, 0, 7, .nobody, 0⟩
    let noted := fun n => ({ holding .answering [doneReply 16] with
      rpt := { Reporter.initial with notices := List.replicate n notice } } : State)
    let owing := fell [⟨.notice, true⟩] (noted 4)
    let sent := seqOf (at_ .running) fun q => { q with outgoing := some (markFrame 1) }
    let full := ported [] [] (List.replicate 16 (markFrame 1)) (.forwarding (markFrame 1))
    let leaving := rpOf owing fun r => { r with port := .general (markFrame 1), queue := [markFrame 1] }
    (owing.forwardingOnly = false ∧ owing.rp.queue.length < 16 ∧ owing.producerReady .notice = true ∧
      ¬ owing.mustWait .notice ∧ owing.mustWait (.reply .driveMaster)) ∧
    (16 ≤ full.rp.queue.length ∧ (at_ .running).producerReady .aux = false) ∧
    (sent.seq.outgoing = some (markFrame 1) ∧ ¬ sent.mustWait .aux) ∧
    ((noted 3).producerReady .notice = false ∧ ((noted 3).rqh.get .driveMaster).replies = [doneReply 16] ∧
      ¬ (fell [⟨.notice, true⟩] (noted 3)).mustWait (.reply .driveMaster)) ∧
    (leaving.rp.port = .general (markFrame 1) ∧ leaving.sendingRestart = false ∧
      Producer.all.filter leaving.producerReady = [.reply .driveMaster, .notice] ∧ leaving.owes [⟨.notice, true⟩]) := by
  have free := fun (s : State) (p : Producer) (h : s.mayTake p = true) => ((s.mayTake_iff p).1 h).2.2
  exact ⟨⟨by decide +kernel, by decide +kernel, by decide +kernel, free _ _ (by decide +kernel),
      [], _, [], rfl, by simp, ⟨_, List.mem_singleton_self _, rfl, by decide +kernel⟩, by simp⟩,
    by decide +kernel, ⟨rfl, free _ _ (by decide +kernel)⟩,
    ⟨by decide +kernel, rfl, free _ _ (by decide +kernel)⟩,
    rfl, by decide +kernel, by decide +kernel, _, List.mem_singleton_self _, rfl, by decide +kernel⟩

theorem test_NoticesFlushed_premises :
    let notice : Notice := ⟨.shock, 0, 7, .nobody, 0⟩
    (at_ .running).rpt.flush = .stopped ∧ (at_ .running).rpt.notices.length < 32 ∧
    ({ Reporter.initial with flush := .running 0 } : Reporter).flush = .running 0 ∧ (List.replicate 31 notice).length < 32 ∧
    32 ≤ (List.replicate 32 notice).length := by decide +kernel

/-- The response of a Restart answered DONE now leaves the port. -/
def restarting : State :=
  ported [] [] [makeFrame 0 5 kindResponse 7 [28, 1, 0]] (.general (makeFrame 0 5 kindResponse 7 [28, 1, 0]))

theorem test_RestartTaken_premises :
    (operated .ready).takesFrom operator ∧ (at_ .running).takesFrom station ∧ (at_ .ready).takesFrom station ∧
    (at_ .ready).seq.grant = .none ∧ (at_ .ready).recorder.capturing = none ∧ (recorded .tripped .capturing 4).takesFrom station ∧
    restarting.sendingRestart = true ∧ (at_ .ready).sendingRestart = false := by decide +kernel

theorem test_ResetsTaken_premises : (State.initial 0).forwardingOnly = true ∧ (State.initial 63).forwardingOnly = true ∧
    (State.initial 5).forwardingOnly = false ∧ (Instr.powerOn 63 false = .powerOn 63 false) := by decide +kernel

/-- A running state with a command waiting. -/
def waiting : State := { at_ .running with pending := [.clearHotStop 30 1] }

theorem test_invariants_premises : Safe waiting ∧ ∃ t, step waiting = .next t := by
  refine ⟨⟨⟨by decide, by decide, by decide, by decide, by decide⟩, ⟨?_, ?_, fun h => absurd rfl h⟩, ⟨by decide, by decide⟩,
    ⟨by decide, by decide, by decide, by decide, by decide, by decide, by decide⟩, ?_, rfl, ⟨by decide, ?_⟩⟩,
    _, rfl⟩
  · intro h
    cases h
  · intro b h
    cases h
    exact test_bank_is_valid
  · intro b h
    cases h
    decide +kernel
  · intro r h
    cases h

theorem test_reset_is_safe_premise : ∃ t, exec (.powerOn 9 true) waiting = .next t := ⟨_, rfl⟩

end Sys2Proof.Tests
end

section
/-! PROOF. The output arbiter and the forwarding buffer (R4, R5). -/

namespace Sys2Proof.Machine

variable {s : State}

/-! ## The arbiter and a forwarded frame, case by case -/

/-- R5: while a frame is being transmitted the arbiter starts none. -/
theorem State.arbitrate_of_busy (h : s.rp.port ≠ .idle) : s.arbitrate = s := by
  unfold State.arbitrate
  split
  · contradiction
  · rfl

/-- R5: the head of the forwarding buffer goes before the priority pair and the general transmit queue. -/
theorem State.arbitrate_of_buffer_cons {g : RawFrame} {rest : List RawFrame} (hi : s.rp.port = .idle)
    (hb : s.rp.buffer = g :: rest) :
    s.arbitrate = { s with rp := { s.rp with port := .forwarding g, buffer := rest } } := by
  simp only [State.arbitrate, hi, hb]

/-- R4: with a place free, a frame joins the tail before the arbiter chooses. -/
theorem State.forward_of_length_lt (f : RawFrame) (h : s.rp.buffer.length < 4) :
    s.forward f = ({ s with rp := { s.rp with buffer := s.rp.buffer ++ [f] } } : State).arbitrate :=
  if_pos h

/-- R4: with no place free, a frame is dropped and counted. -/
theorem State.forward_of_full (f : RawFrame) (h : 4 ≤ s.rp.buffer.length) :
    s.forward f = { s with rp := { s.rp with forwardOverflow := min 65535 (s.rp.forwardOverflow + 1) } } :=
  if_neg (Nat.not_lt.mpr h)

/-- R4: a frame that finds the buffer empty and the port idle is transmitted at once. -/
theorem State.forward_of_idle_empty (f : RawFrame) (hb : s.rp.buffer = []) (hi : s.rp.port = .idle) :
    s.forward f = { s with rp := { s.rp with port := .forwarding f } } := by
  have hj : ({ s with rp := { s.rp with buffer := s.rp.buffer ++ [f] } } : State).rp.buffer = f :: [] := by
    simp [hb]
  rw [State.forward_of_length_lt f (by simp [hb]), State.arbitrate_of_buffer_cons (by exact hi) hj, ← hb]

/-- R4: the forwarding buffer never grows beyond four, as the arbiter adds no frame to it. -/
theorem State.forward_buffer_length (f : RawFrame) (h : s.rp.buffer.length ≤ 4) :
    (s.forward f).rp.buffer.length ≤ 4 := by
  rcases Nat.lt_or_ge s.rp.buffer.length 4 with hlt | hfull
  · rw [State.forward_of_length_lt f hlt]
    refine (State.arbitrate_places _).1.trans ?_
    simp only [List.length_append, List.length_singleton]
    omega
  · rw [State.forward_of_full f hfull]
    exact h

/-! ## The obligation -/

/-- Settles O6: R4's three cases of a forwarded frame, the bound, the departure of the head, and the count's word on page 0. -/
theorem forwardingBuffer : Obligations.ForwardingBuffer := by
  intro s f
  refine ⟨fun hlt hbusy => ?joins, State.forward_of_idle_empty f, State.forward_of_full f,
    State.forward_buffer_length f, fun _ _ => State.arbitrate_of_buffer_cons, ?word⟩
  case joins =>
    rw [State.forward_of_length_lt f hlt]
    exact State.arbitrate_of_busy hbusy
  case word => rfl

end Sys2Proof.Machine
end

section
/-! PROOF. Discard Staged (R30). -/

namespace Sys2Proof.Machine

variable {s : State} {a : Asker}

/-! ## The tests of the rule, in their order -/

/-- R30: below COMMISSION the request is refused. -/
theorem requestDiscard_of_operate (hl : a.level = .operate) : requestDiscard a s = refuse .refusedAccess s :=
  if_pos hl

/-- R30: while the tables are frozen the request is refused. -/
theorem requestDiscard_of_frozen (hl : a.level = .commission) (hf : s.sched.frozen = true) :
    requestDiscard a s = refuse .frozen s := by
  simp [requestDiscard, hl, hf]

/-- R30: while an activation is pending the request is refused. -/
theorem requestDiscard_of_activating (hl : a.level = .commission) (hf : s.sched.frozen = false)
    (hp : s.sched.activation ≠ none) : requestDiscard a s = refuse .busy s := by
  simp [requestDiscard, hl, hf, Option.isSome_iff_ne_none.mpr hp]

/-- R30: with no test failed the staged bank is made equal to the active bank. -/
theorem requestDiscard_of_free (hl : a.level = .commission) (hf : s.sched.frozen = false)
    (hp : s.sched.activation = none) :
    requestDiscard a s = answerDone [] { s with sched := s.sched.discarded } := by
  simp [requestDiscard, hl, hf, hp]

/-! ## The command -/

/-- R173: a Discard Staged that a manager may send now is answered as its owning rule decides. -/
theorem exec_discardStaged_answers {tag : Word} {code : ResultCode} (v : State) (h : s.takesFrom a)
    (hr : requestDiscard a (s.taking a tag) = (v.taking a tag, some (code, []))) (hq : v.rqh = s.rqh) :
    exec (.discardStaged a.addr tag) s = .next (v.answered a 24 tag code []) :=
  congrArg _ (s.commandArrives_answers h (Nat.zero_le _) rfl hr v rfl hq)

/-- Settles O28: each test of R30 reads the schedule, which taking the request does not touch, and the last case copies the
active bank. -/
theorem stagedDiscarded : Obligations.StagedDiscarded := by
  intro s a tag htake
  refine ⟨fun hl => ?access, fun hl hf => ?frozen, fun hl hf hp => ?busy, fun hl hf hp => ?done⟩
  case access => exact exec_discardStaged_answers s htake (requestDiscard_of_operate hl) rfl
  case frozen => exact exec_discardStaged_answers s htake (requestDiscard_of_frozen hl hf) rfl
  case busy => exact exec_discardStaged_answers s htake (requestDiscard_of_activating hl hf hp) rfl
  case done => exact exec_discardStaged_answers _ htake (requestDiscard_of_free hl hf hp) rfl

end Sys2Proof.Machine
end

section
/-! PROOF. The header words of a frame (R190). -/

namespace Sys2Proof

/-! ## A word of three fields, and the fields cut from it -/

variable {m n k : Nat}

/-- The high field of three stands above the two others. -/
theorem extractLsb'_three_high (a : BitVec m) (b : BitVec n) (c : BitVec k) :
    (a ++ b ++ c).extractLsb' (n + k) m = a := by
  rw [BitVec.extractLsb'_append_eq_of_le (Nat.le_add_left k n), Nat.add_sub_cancel,
    BitVec.extractLsb'_append_eq_left]

/-- The middle field of three stands above the low one. -/
theorem extractLsb'_three_middle (a : BitVec m) (b : BitVec n) (c : BitVec k) :
    (a ++ b ++ c).extractLsb' k n = b := by
  rw [BitVec.extractLsb'_append_eq_of_le (Nat.le_refl k), Nat.sub_self, BitVec.extractLsb'_append_eq_right]

/-- A word is the three fields that lie side by side in it. -/
theorem append_extractLsb'_three (x : BitVec (m + n + k)) :
    x.extractLsb' (n + k) m ++ x.extractLsb' k n ++ x.extractLsb' 0 k = x := by
  have hupper : x.extractLsb' (n + k) m ++ x.extractLsb' k n = x.extractLsb' k (m + n) :=
    BitVec.extractLsb'_append_extractLsb'_eq_extractLsb' (Nat.add_comm n k)
  rw [hupper, BitVec.extractLsb'_append_extractLsb']

/-! ## The fields of a frame the part builds -/

section
variable (dest src : Addr) (kind : Nat) (tag : Word) (payload : List Word)

@[simp] theorem makeFrame_dest : (makeFrame dest src kind tag payload).dest = dest :=
  extractLsb'_three_high dest src 0#4

@[simp] theorem makeFrame_source : (makeFrame dest src kind tag payload).source = src :=
  extractLsb'_three_middle dest src 0#4

/-- R190: bits 3..0 of word 0 are sent as 0. -/
theorem makeFrame_h0_zero_bits : (makeFrame dest src kind tag payload).h0.extractLsb' 0 4 = 0#4 :=
  BitVec.extractLsb'_append_eq_right

/-- R190: bits 10..7 of word 1 are sent as 0. -/
theorem makeFrame_h1_zero_bits : (makeFrame dest src kind tag payload).h1.extractLsb' 7 4 = 0#4 :=
  extractLsb'_three_middle (BitVec.ofNat 5 kind) 0#4 (BitVec.ofNat 7 payload.length)

@[simp] theorem makeFrame_tag : (makeFrame dest src kind tag payload).tag = tag := rfl

variable {kind payload}

/-- A kind code that fits its five bits is read back. -/
theorem makeFrame_kindCode (hkind : kind < 32) : (makeFrame dest src kind tag payload).kindCode = kind := by
  have hfield : (makeFrame dest src kind tag payload).h1.extractLsb' 11 5 = BitVec.ofNat 5 kind :=
    extractLsb'_three_high _ 0#4 (BitVec.ofNat 7 payload.length)
  rw [RawFrame.kindCode, hfield, BitVec.toNat_ofNat, Nat.mod_eq_of_lt hkind]

/-- A payload length that fits its seven bits is read back. -/
theorem makeFrame_lengthField (hlength : payload.length < 128) :
    (makeFrame dest src kind tag payload).lengthField = payload.length := by
  have hfield : (makeFrame dest src kind tag payload).h1.extractLsb' 0 7 = BitVec.ofNat 7 payload.length :=
    BitVec.extractLsb'_append_eq_right
  rw [RawFrame.lengthField, hfield, BitVec.toNat_ofNat, Nat.mod_eq_of_lt hlength]

end

/-! ## The fields of a received header -/

section
variable (f : RawFrame)

/-- R190: word 0 is the destination, the source and four bits. -/
theorem RawFrame.h0_eq_fields : f.dest ++ f.source ++ f.h0.extractLsb' 0 4 = f.h0 :=
  append_extractLsb'_three (m := 6) (n := 6) (k := 4) f.h0

/-- R190: word 1 is the kind code, four bits and the payload length. -/
theorem RawFrame.h1_eq_fields :
    BitVec.ofNat 5 f.kindCode ++ f.h1.extractLsb' 7 4 ++ BitVec.ofNat 7 f.lengthField = f.h1 := by
  have hkind : BitVec.ofNat 5 f.kindCode = f.h1.extractLsb' 11 5 := by
    rw [RawFrame.kindCode, BitVec.ofNat_toNat, BitVec.setWidth_eq]
  have hlength : BitVec.ofNat 7 f.lengthField = f.h1.extractLsb' 0 7 := by
    rw [RawFrame.lengthField, BitVec.ofNat_toNat, BitVec.setWidth_eq]
  rw [hkind, hlength]
  exact append_extractLsb'_three (m := 5) (n := 4) (k := 7) f.h1

end

namespace Machine

/-- Settles O9: the part builds each header word of three fields side by side and reads each at its own bits, so a field that
fits comes back, and a received word is its fields again. -/
theorem headerFields : Obligations.HeaderFields := by
  refine ⟨fun dest src kind tag payload hkind hlength => ?built, fun f => ?received, ?codes⟩
  case built =>
    have hdest := makeFrame_dest dest src kind tag payload
    have hsource := makeFrame_source dest src kind tag payload
    have hcode := makeFrame_kindCode dest src tag (payload := payload) hkind
    have hlen := makeFrame_lengthField dest src (kind := kind) tag hlength
    exact ⟨hdest, hsource, makeFrame_h0_zero_bits dest src kind tag payload, hcode,
      makeFrame_h1_zero_bits dest src kind tag payload, hlen, rfl, hdest, hsource, hcode, hlen, rfl⟩
  case received => exact ⟨f.h0_eq_fields, f.h1_eq_fields, rfl⟩
  case codes => rfl

end Machine

end Sys2Proof
end

section
/-! PROOF. The commands by what they are: frames, requests with their owning rules, resets, and the rest. -/

namespace Sys2Proof.Machine

/-- A frame command is the frame received. -/
theorem exec_frameCommand {f : RawFrame} {c : Instr} (hc : c ∈ frameCommands f) (s : State) :
    exec c s = .next (s.receiveFrame f) := by
  simp only [frameCommands, List.mem_cons, List.not_mem_nil, or_false] at hc
  rcases hc with rfl | rfl | rfl | rfl | rfl | rfl | rfl | rfl | rfl | rfl <;> rfl

/-- A request is its command frame's payload arriving. -/
theorem exec_request {c : Instr} {src : Addr} {ws : List Word} (hc : requestOf c = some (src, ws)) (s : State) :
    exec c s = .next (s.commandArrives src ws) := by
  cases c <;> cases hc <;> rfl

/-- The commands apart from frames and requests. -/
def otherCommands : List Instr :=
  [.transmissionEnd, .deadlineExpiry, .markTimerExpiry, .auxFrameQueued, .turnTimerExpiry, .overdueTimerExpiry,
   .recallTimerExpiry, .noticeFrame, .flushTimerExpiry, .responseQueued .driveMaster, .responseQueued .serviceStation,
   .recordData, .recordEnd, .restartTakesEffect]

/-- Every command is a frame, a request, a reset, or one of the rest. -/
theorem command_cases (c : Instr) :
    (∃ f, c ∈ frameCommands f) ∨ (∃ src ws, requestOf c = some (src, ws)) ∨
      (∃ straps good, c = .powerOn straps good) ∨ (∃ straps, c = .hardwareReset straps) ∨ c ∈ otherCommands := by
  cases c
  case responseQueued m => cases m <;> simp [otherCommands]
  all_goals simp [frameCommands, requestOf, otherCommands]

/-- R193: the owning rules of the request list, with the arguments their requests carry. -/
inductive OwnerRule (a : Asker) : (State → Answered) → Prop where
  | describe : OwnerRule a (requestDescribe a)
  | readStatus (page : Word) : OwnerRule a (requestReadStatus page)
  | poll : OwnerRule a requestPoll
  | enable : OwnerRule a (requestEnable a)
  | disable : OwnerRule a (requestDisable a)
  | startRun : OwnerRule a (requestStartRun a)
  | startTurning : OwnerRule a (requestStartTurning a)
  | stop : OwnerRule a (requestStop a)
  | trip (detail : Word) : OwnerRule a (requestTrip detail)
  | acknowledge : OwnerRule a (requestAcknowledge a)
  | setHot : OwnerRule a requestSetHot
  | clearHot : OwnerRule a requestClearHot
  | clearAlarms : OwnerRule a requestClearAlarms
  | annotate (code : Word) : OwnerRule a (requestAnnotate code)
  | readHeader (slot : Word) : OwnerRule a (requestReadHeader slot)
  | readRecord (slot first count : Word) : OwnerRule a (requestReadRecord a slot first count)
  | abort : OwnerRule a (requestAbort a)
  | lock (slot : Word) : OwnerRule a (requestLock slot)
  | unlock (slot : Word) : OwnerRule a (requestUnlock a slot)
  | erase : OwnerRule a (requestErase a)
  | readRows (bank table first count : Word) : OwnerRule a (requestReadRows bank table first count)
  | loadRows (table first count : Word) (rows : List Word) : OwnerRule a (requestLoadRows a table first count rows)
  | activate : OwnerRule a (requestActivate a)
  | discard : OwnerRule a (requestDiscard a)
  | pin (row : Word) : OwnerRule a (requestPin a row)
  | release : OwnerRule a (requestRelease a)
  | freeze : OwnerRule a (requestFreeze a)
  | restart : OwnerRule a (requestRestart a)

/-- R171: a request of known kind and argument count has an owning rule of the list: by argument count, then by kind. -/
theorem ownerRule_of_decides {a : Asker} {kind : Nat} {args : List Word} {act : State → Answered}
    (h : ownerDecides a kind args = some act) : OwnerRule a act := by
  have hkind : kind < 29 ∨ ∃ n, kind = n + 29 := by
    by_cases hk : kind < 29
    · exact .inl hk
    · exact .inr ⟨kind - 29, by omega⟩
  rcases hkind with hk | ⟨n, rfl⟩
  · rcases args with _ | ⟨x, _ | ⟨y, _ | ⟨z, _ | ⟨w, _ | ⟨v, l⟩⟩⟩⟩⟩ <;> interval_cases kind <;> cases h <;> constructor
  · cases h
end Sys2Proof.Machine
end

section
/-! PROOF. Every operation of the model keeps the seven laws, each from its own premise. -/

namespace Sys2Proof.Machine

/-- Each law that `s` has, `t` has: what a safe run keeps, law by law. -/
structure KeepsLaws (s t : State) : Prop where
  drive : DriveLaw s → DriveLaw t
  bank : BankLaw s → BankLaw t
  capture : CaptureLaw s → CaptureLaw t
  stores : StoreLaw s → StoreLaw t
  later : LaterLaw s → LaterLaw t
  accumulators : AccumulatorLaw s → AccumulatorLaw t
  ceilings : CeilingLaw s → CeilingLaw t

/-- An operation of a command keeps every law, and the commands waiting. -/
structure Keeps (s t : State) : Prop extends KeepsLaws s t where
  queue : t.pending = s.pending

variable {s t u : State}

theorem KeepsLaws.trans (h₁ : KeepsLaws s t) (h₂ : KeepsLaws t u) : KeepsLaws s u :=
  ⟨h₂.drive ∘ h₁.drive, h₂.bank ∘ h₁.bank, h₂.capture ∘ h₁.capture, h₂.stores ∘ h₁.stores, h₂.later ∘ h₁.later,
    h₂.accumulators ∘ h₁.accumulators, h₂.ceilings ∘ h₁.ceilings⟩

@[refl] theorem Keeps.refl (s : State) : Keeps s s := ⟨⟨id, id, id, id, id, id, id⟩, rfl⟩

@[trans] theorem Keeps.trans (h₁ : Keeps s t) (h₂ : Keeps t u) : Keeps s u :=
  ⟨h₁.toKeepsLaws.trans h₂.toKeepsLaws, h₂.queue.trans h₁.queue⟩

/-- The last operation first, so that the state between is read off it. -/
theorem Keeps.after (h₂ : Keeps t u) (h₁ : Keeps s t) : Keeps s u := h₁.trans h₂

/-! ## Writes of one block -/

/-- The draws, the Intake and the Request Handler are read by no law. -/
theorem keeps_free (draws : Nat) (i : Intake) (q : Requests) :
    Keeps s { s with draws := draws, intake := i, rqh := q } where
  drive h := ⟨h.declared_iff_tripped, h.grant_held, h.auxiliary_granted, h.pending_stopping, h.allowance_started⟩
  bank h := ⟨h.empty_blocked, h.active_valid, h.pending_valid⟩
  capture := id
  stores h := ⟨h.buffer, h.pair, h.queue, h.shocks, h.later, h.history, h.notices⟩
  later := id
  accumulators := id
  ceilings := id
  queue := rfl

theorem keeps_drawn : Keeps s s.drawn := keeps_free (s.draws + 1) s.intake s.rqh

theorem keeps_intake (i : Intake) : Keeps s { s with intake := i } := keeps_free s.draws i s.rqh

theorem keeps_rqh (q : Requests) : Keeps s { s with rqh := q } := keeps_free s.draws s.intake q

/-- The commands waiting are read by no law. -/
theorem keepsLaws_pending (l : List Instr) : KeepsLaws s { s with pending := l } where
  drive h := ⟨h.declared_iff_tripped, h.grant_held, h.auxiliary_granted, h.pending_stopping, h.allowance_started⟩
  bank h := ⟨h.empty_blocked, h.active_valid, h.pending_valid⟩
  capture := id
  stores h := ⟨h.buffer, h.pair, h.queue, h.shocks, h.later, h.history, h.notices⟩
  later := id
  accumulators := id
  ceilings := id

/-- R4, R6, R7: the strap value is kept, and no store of the Ring Port outgrows its places. -/
structure PlacesKept (r r' : RingPort) : Prop where
  strap : r'.strap = r.strap
  buffer : r.buffer.length ≤ 4 → r'.buffer.length ≤ 4
  pair : r.pair.length ≤ 2 → r'.pair.length ≤ 2
  queue : r.queue.length ≤ 16 → r'.queue.length ≤ 16

theorem keeps_rp {r : RingPort} (hr : PlacesKept s.rp r) : Keeps s { s with rp := r } where
  drive h := ⟨h.declared_iff_tripped, h.grant_held, h.auxiliary_granted, h.pending_stopping, h.allowance_started⟩
  bank h := ⟨h.empty_blocked, fun b hb => by simpa [hr.strap] using h.active_valid b hb,
    fun ha => by simpa [hr.strap] using h.pending_valid ha⟩
  capture := id
  stores h := ⟨hr.buffer h.buffer, hr.pair h.pair, hr.queue h.queue, h.shocks, h.later, h.history, h.notices⟩
  later := id
  accumulators := id
  ceilings := id
  queue := rfl

theorem keeps_rpt {r : Reporter} (hr : s.rpt.notices.length ≤ 32 → r.notices.length ≤ 32) :
    Keeps s { s with rpt := r } where
  drive h := ⟨h.declared_iff_tripped, h.grant_held, h.auxiliary_granted, h.pending_stopping, h.allowance_started⟩
  bank h := ⟨h.empty_blocked, h.active_valid, h.pending_valid⟩
  capture := id
  stores h := ⟨h.buffer, h.pair, h.queue, h.shocks, h.later, h.history, hr h.notices⟩
  later := id
  accumulators := id
  ceilings := id
  queue := rfl

/-- R35: the active bank is kept, and an activation that is pending after the write has a staged bank to swap in. -/
theorem keeps_sched {c : Schedule} (hactive : c.active = s.sched.active)
    (hpending : c.activation ≠ none → s.sched.activation ≠ none ∧ c.staged = s.sched.staged ∨
      ∃ b, c.staged = some b ∧ b.failure s.rp.strap = none) : Keeps s { s with sched := c } where
  drive h := ⟨h.declared_iff_tripped, h.grant_held, h.auxiliary_granted, h.pending_stopping, h.allowance_started⟩
  bank h := ⟨fun hn => h.empty_blocked (hactive ▸ hn), fun b hb => h.active_valid b (hactive ▸ hb), fun ha =>
    (hpending ha).elim (fun ⟨hs, he⟩ => he ▸ h.pending_valid hs) id⟩
  capture := id
  stores h := ⟨h.buffer, h.pair, h.queue, h.shocks, h.later, h.history, h.notices⟩
  later := id
  accumulators h b hb := h b (hactive ▸ hb)
  ceilings h := by simpa [CeilingLaw, hactive] using h
  queue := rfl

theorem keeps_split {p : Splitter} (hp : AccumulatorLaw s → AccumulatorLaw { s with split := p }) :
    Keeps s { s with split := p } where
  drive h := ⟨h.declared_iff_tripped, h.grant_held, h.auxiliary_granted, h.pending_stopping, h.allowance_started⟩
  bank h := ⟨h.empty_blocked, h.active_valid, h.pending_valid⟩
  capture := id
  stores h := ⟨h.buffer, h.pair, h.queue, h.shocks, h.later, h.history, h.notices⟩
  later := id
  accumulators := hp
  ceilings := id
  queue := rfl

theorem keeps_reg {r : PerMotor Regulator} (hr : AccumulatorLaw s → AccumulatorLaw { s with reg := r }) :
    Keeps s { s with reg := r } where
  drive h := ⟨h.declared_iff_tripped, h.grant_held, h.auxiliary_granted, h.pending_stopping, h.allowance_started⟩
  bank h := ⟨h.empty_blocked, h.active_valid, h.pending_valid⟩
  capture := id
  stores h := ⟨h.buffer, h.pair, h.queue, h.shocks, h.later, h.history, h.notices⟩
  later := id
  accumulators := hr
  ceilings := id
  queue := rfl

/-- R67, R70: no allowance begins, and the shock list stays within its places. -/
theorem keeps_lim {l : Limiter} (hb : l.breakaway ≠ none → s.lim.breakaway ≠ none)
    (hl : s.lim.shocks.length ≤ 8 → l.shocks.length ≤ 8) : Keeps s { s with lim := l } where
  drive h := ⟨h.declared_iff_tripped, h.grant_held, h.auxiliary_granted, h.pending_stopping,
    fun hn => h.allowance_started (hb hn)⟩
  bank h := ⟨h.empty_blocked, h.active_valid, h.pending_valid⟩
  capture := id
  stores h := ⟨h.buffer, h.pair, h.queue, hl h.shocks, h.later, h.history, h.notices⟩
  later := id
  accumulators := id
  ceilings := id
  queue := rfl

theorem keeps_vib {v : Vibration} (hv : CeilingLaw s → CeilingLaw { s with vib := v }) : Keeps s { s with vib := v } where
  drive h := ⟨h.declared_iff_tripped, h.grant_held, h.auxiliary_granted, h.pending_stopping, h.allowance_started⟩
  bank h := ⟨h.empty_blocked, h.active_valid, h.pending_valid⟩
  capture := id
  stores h := ⟨h.buffer, h.pair, h.queue, h.shocks, h.later, h.history, h.notices⟩
  later := id
  accumulators := id
  ceilings := hv
  queue := rfl

/-- A change of the Drive Sequencer into or out of TRIPPED goes with the Trip Unit's; one out of BLOCKED needs a bank (R116). -/
theorem keeps_seq {q : Sequencer} (hlaw : DriveLaw s → DriveLaw { s with seq := q })
    (htripped : q.drive = .tripped ↔ s.seq.drive = .tripped)
    (hblocked : s.seq.drive = .blocked → s.sched.active = none → q.drive = .blocked) : Keeps s { s with seq := q } where
  drive := hlaw
  bank h := ⟨fun hn => hblocked (h.empty_blocked hn) hn, h.active_valid, h.pending_valid⟩
  capture h := ⟨h.1.trans htripped.symm, fun k hk => ⟨htripped.2 (h.2 k hk).1, (h.2 k hk).2⟩⟩
  stores h := ⟨h.buffer, h.pair, h.queue, h.shocks, h.later, h.history, h.notices⟩
  later := id
  accumulators := id
  ceilings := id
  queue := rfl

/-- The drive state, the grant and the pending takeover are kept. -/
theorem keeps_seq_same {q : Sequencer} (hdrive : q.drive = s.seq.drive) (hgrant : q.grant = s.seq.grant)
    (hpending : q.pendingTakeover = s.seq.pendingTakeover) : Keeps s { s with seq := q } :=
  keeps_seq
    (fun h => ⟨by simpa [hdrive] using h.declared_iff_tripped, by simpa [hdrive, hgrant] using h.grant_held,
      by simpa [hdrive, hgrant] using h.auxiliary_granted, by simpa [hdrive, hpending] using h.pending_stopping,
      by simpa [hdrive] using h.allowance_started⟩)
    (by rw [hdrive]) (fun h _ => hdrive.trans h)

/-- R146: the trip stays declared or not, and the later causes stay within their places and distinct. -/
theorem keeps_tru {x : TripUnit} (hdeclared : x.declared = s.tru.declared)
    (hplaces : s.tru.later.length ≤ 4 → x.later.length ≤ 4) (hlater : LaterLaw s → LaterLaw { s with tru := x }) :
    Keeps s { s with tru := x } where
  drive h := ⟨by simpa [hdeclared] using h.declared_iff_tripped, h.grant_held, h.auxiliary_granted, h.pending_stopping,
    h.allowance_started⟩
  bank h := ⟨h.empty_blocked, h.active_valid, h.pending_valid⟩
  capture h := ⟨by simpa [hdeclared] using h.1, h.2⟩
  stores h := ⟨h.buffer, h.pair, h.queue, h.shocks, hplaces h.later, h.history, h.notices⟩
  later := hlater
  accumulators := id
  ceilings := id
  queue := rfl

/-- R153, R157: the history stays within its places, and a slot that is CAPTURING was so and is still the trip's. -/
theorem keeps_recorder {r : Recorder} (hhistory : s.recorder.history.length ≤ 1024 → r.history.length ≤ 1024)
    (hslots : ∀ k : Fin 8, r.slots[k].state = .capturing →
      s.recorder.slots[k].state = .capturing ∧ (s.recorder.currentSlot = some k → r.currentSlot = some k)) :
    Keeps s { s with recorder := r } where
  drive h := ⟨h.declared_iff_tripped, h.grant_held, h.auxiliary_granted, h.pending_stopping, h.allowance_started⟩
  bank h := ⟨h.empty_blocked, h.active_valid, h.pending_valid⟩
  capture h := ⟨h.1, fun k hk => ⟨(h.2 k (hslots k hk).1).1, (hslots k hk).2 (h.2 k (hslots k hk).1).2⟩⟩
  stores h := ⟨h.buffer, h.pair, h.queue, h.shocks, h.later, hhistory h.history, h.notices⟩
  later := id
  accumulators := id
  ceilings := id
  queue := rfl

end Sys2Proof.Machine
end

section
/-! PROOF. The shared operations and the blocks' own operations keep every law. -/

namespace Sys2Proof.Machine

variable {s t u : State}

/-! ## Free orders -/

theorem keeps_inEitherOrder {f g : State → State} (hf : ∀ t, Keeps t (f t)) (hg : ∀ t, Keeps t (g t)) :
    Keeps s (inEitherOrder f g s) :=
  inEitherOrder_keeps (P := Keeps s) (fun _ h => h.trans keeps_drawn) (fun t h => h.trans (hf t))
    (fun t h => h.trans (hg t)) (Keeps.refl s)

theorem keeps_inAnyOrder {n : Nat} {acts : List (State → State)} (ha : ∀ a ∈ acts, ∀ t, Keeps t (a t)) :
    Keeps s (inAnyOrder n acts s) :=
  inAnyOrder_keeps (P := Keeps s) (fun _ h => h.trans keeps_drawn) n acts s (fun a hm t h => h.trans (ha a hm t))
    (Keeps.refl s)

/-! ## Ring Port -/

theorem PlacesKept.refl (r : RingPort) : PlacesKept r r := ⟨rfl, id, id, id⟩

theorem State.arbitrate_placesKept : PlacesKept s.rp s.arbitrate.rp := by
  obtain ⟨hbuffer, hpair, hqueue⟩ := s.arbitrate_places
  exact ⟨s.arbitrate_strap, hbuffer.trans, hpair.trans, fun h => hqueue ▸ h⟩

/-- An arbitration changes the Ring Port alone. -/
theorem State.arbitrate_eq (s : State) : s.arbitrate = { s with rp := s.arbitrate.rp } := by
  unfold State.arbitrate
  repeat' split
  all_goals rfl

theorem keeps_arbitrate : Keeps s s.arbitrate := s.arbitrate_eq ▸ keeps_rp s.arbitrate_placesKept

theorem keeps_rp_arbitrate {r : RingPort} (hr : PlacesKept s.rp r) : Keeps s ({ s with rp := r } : State).arbitrate :=
  (keeps_rp hr).trans keeps_arbitrate

theorem keeps_forward (f : RawFrame) : Keeps s (s.forward f) := by
  unfold State.forward
  split
  next h => exact keeps_rp_arbitrate ⟨rfl, fun _ => by simp; omega, id, id⟩
  next => exact keeps_rp ⟨rfl, id, id, id⟩

theorem keeps_joinPair (f : RawFrame) : Keeps s (s.joinPair f) := by
  unfold State.joinPair
  split
  · exact .refl s
  · exact keeps_rp_arbitrate ⟨rfl, id, joinedPair_length f, id⟩

theorem State.queue_lt_of_mayTake {p : Producer} (h : s.mayTake p = true) : s.rp.queue.length < 16 := by
  obtain ⟨hfree, -, -⟩ := (s.mayTake_iff p).1 h
  simp [State.placeFree] at hfree
  exact hfree.2

theorem keeps_joinQueue (f : RawFrame) (h : s.rp.queue.length < 16) : Keeps s (s.joinQueue f) :=
  keeps_rp_arbitrate ⟨rfl, id, id, fun _ => by simp; omega⟩

theorem keeps_tookPlace (p : Producer) : Keeps s (s.tookPlace p) := keeps_rp ⟨rfl, id, id, id⟩

theorem keeps_placeFellFree : Keeps s s.placeFellFree :=
  keeps_rp (r := s.placeFellFree.rp) ⟨rfl, id, id, fun h => by simp [State.placeFellFree]; omega⟩

theorem keeps_portIdle : Keeps s s.portIdle := keeps_rp ⟨rfl, id, id, id⟩

theorem keeps_countUnexpected : Keeps s s.countUnexpected := keeps_rp ⟨rfl, id, id, id⟩

theorem keeps_countLengthError : Keeps s s.countLengthError := keeps_rp ⟨rfl, id, id, id⟩

theorem keeps_countCheckError : Keeps s s.countCheckError := keeps_rp ⟨rfl, id, id, id⟩

theorem keeps_produceDrive (m : Motor) (e : Bool) (v : Int) (n : Nat) : Keeps s (s.produceDrive m e v n) := by
  unfold State.produceDrive
  split
  · exact .refl s
  · exact keeps_joinPair _

theorem keeps_produceBlocks : Keeps s s.produceBlocks := by
  unfold State.produceBlocks
  split
  · exact .refl s
  · exact keeps_inEitherOrder (fun _ => keeps_produceDrive ..) (fun _ => keeps_produceDrive ..)

theorem keeps_produceEcho : Keeps s s.produceEcho := keeps_joinPair _

/-! ## Reporter and Request Handler -/

theorem keeps_raiseAttention (x : Raise) : Keeps s (s.raiseAttention x) := 
  keeps_rpt (r := (s.raiseAttention x).rpt) fun h => Reporter.append_length _ _ _ h

theorem keeps_raiseAll (xs : List Raise) : Keeps s (s.raiseAll xs) := by
  induction xs generalizing s with
  | nil => exact .refl s
  | cons x xs ih => exact (keeps_raiseAttention x).trans ih

theorem keeps_reportCause (r : CauseRecord) : Keeps s (s.reportCause r) := keeps_raiseAttention _

theorem keeps_formReply (m : Manager) (r : Reply) : Keeps s (s.formReply m r) := keeps_rqh _

theorem keeps_setHolder (m : Manager) (h : Holder) : Keeps s (s.setHolder m h) := keeps_rqh _

theorem keeps_commandOverrun : Keeps s s.commandOverrun := keeps_rqh _

theorem keeps_flushExpires : Keeps s s.flushExpires := by
  unfold State.flushExpires
  split
  · exact keeps_rpt id
  · exact .refl s

theorem keeps_requestPoll : Keeps s (requestPoll s).1 := by
  unfold requestPoll
  split
  · exact .refl s
  · exact keeps_rpt id

/-! ## Schedule Store -/

/-- A write of the Schedule Store that leaves both banks and a pending activation alone. -/
theorem keeps_sched_same {c : Schedule} (hactive : c.active = s.sched.active) (hstaged : c.staged = s.sched.staged)
    (hactivation : c.activation = s.sched.activation) : Keeps s { s with sched := c } :=
  keeps_sched hactive fun h => .inl ⟨hactivation ▸ h, hstaged⟩

theorem keeps_endPin : Keeps s s.endPin := keeps_sched_same rfl rfl rfl

theorem keeps_computeRow (b : Bank) (v : Int) : Keeps s (s.computeRow b v) := keeps_sched_same rfl rfl rfl

theorem keeps_answerActivation (r : ResultCode) : Keeps s (s.answerActivation r) := by
  unfold State.answerActivation
  split
  · exact .refl s
  · exact (keeps_sched (c := { s.sched with activation := none }) rfl fun h => absurd rfl h).trans (keeps_rqh _)

/-! ## Accumulators (R46, R47, R54, R81, R92) -/

theorem natAbs_clampInt_le (x : Int) {l : Int} {n : Nat} (hl : l = n) : (clampInt x l).natAbs ≤ n := by
  unfold clampInt
  split
  · omega
  · split <;> omega

/-- A write of the regulators that keeps both accumulators or sets them to 0. -/
theorem keeps_reg_acc {r : PerMotor Regulator} (ha : r.a.acc = s.reg.a.acc ∨ r.a.acc = 0)
    (hb : r.b.acc = s.reg.b.acc ∨ r.b.acc = 0) : Keeps s { s with reg := r } := by
  refine keeps_reg fun h b hbank => ?_
  obtain ⟨hacc, htrim, hra, hrb⟩ := h b hbank
  refine ⟨hacc, htrim, ?_, ?_⟩
  · rcases ha with e | e <;> simp [e, hra]
  · rcases hb with e | e <;> simp [e, hrb]

/-- A write of one regulator that keeps its accumulator. -/
theorem keeps_reg_set (m : Motor) {r : Regulator} (h : r.acc = (s.reg.get m).acc) :
    Keeps s { s with reg := s.reg.set m r } := by
  cases m
  · exact keeps_reg_acc (.inl h) (.inl rfl)
  · exact keeps_reg_acc (.inl rfl) (.inl h)

theorem keeps_split_acc {p : Splitter} (hacc : p.acc = s.split.acc) (htrim : p.trim = s.split.trim) :
    Keeps s { s with split := p } :=
  keeps_split fun h b hbank => by
    obtain ⟨h₁, h₂, h₃⟩ := h b hbank
    exact ⟨hacc ▸ h₁, by simpa [hacc, htrim] using h₂, h₃⟩

theorem keeps_leaveRunning : Keeps s s.leaveRunning :=
  keeps_produceBlocks.trans (keeps_reg_acc (.inl rfl) (.inl rfl))

theorem keeps_abandonBreakaway : Keeps s s.abandonBreakaway := by
  unfold State.abandonBreakaway
  split
  · exact .refl s
  · exact keeps_lim (fun h => absurd rfl h) id

theorem keeps_produceAux (k : Nat) (p : List Word) : Keeps s (s.produceAux k p) := by
  unfold State.produceAux
  split
  · exact .refl s
  · exact keeps_seq_same rfl rfl rfl

theorem keeps_produceDecline (n : Nat) : Keeps s (s.produceDecline n) := keeps_produceAux ..

theorem keeps_produceHandover : Keeps s s.produceHandover := keeps_produceAux ..

theorem keeps_produceRecall : Keeps s s.produceRecall := keeps_produceAux ..

/-! ## Recorder (R153 to R159) -/

theorem Recorder.setSlot_slots (r : Recorder) (k j : Fin 8) (x : RecordSlot) :
    (r.setSlot k x).slots[j] = if k = j then x else r.slots[j] := by
  simp [Recorder.setSlot, Vector.getElem_set, Fin.ext_iff]

/-- A write of one slot that does not make it CAPTURING. -/
theorem keeps_setSlot (k : Fin 8) {x : RecordSlot}
    (hx : x.state = .capturing → s.recorder.slots[k].state = .capturing) :
    Keeps s { s with recorder := s.recorder.setSlot k x } := by
  refine keeps_recorder id fun j hj => ⟨?_, id⟩
  rw [Recorder.setSlot_slots] at hj
  split at hj
  next e => exact e ▸ hx hj
  next => exact hj

/-- A write of the Recorder that leaves the slots and the current one alone. -/
theorem keeps_recorder_same {r : Recorder} (hhistory : s.recorder.history.length ≤ 1024 → r.history.length ≤ 1024)
    (hslots : r.slots = s.recorder.slots) (hcurrent : r.currentSlot = s.recorder.currentSlot) :
    Keeps s { s with recorder := r } :=
  keeps_recorder hhistory fun _ hk => ⟨hslots ▸ hk, fun h => hcurrent ▸ h⟩

theorem keeps_updateTripHeader (g : Header → Header) : Keeps s (s.updateTripHeader g) := by
  unfold State.updateTripHeader
  split
  · exact .refl s
  · split
    · exact .refl s
    · exact keeps_setSlot _ id

theorem keeps_truncateCapture : Keeps s s.truncateCapture := by
  unfold State.truncateCapture
  split
  · exact .refl s
  · exact (keeps_setSlot _ fun h => by cases h).trans (keeps_raiseAttention _)

theorem keeps_cycleLostTruncates (c : Cause) : Keeps s (s.cycleLostTruncates c) := by
  unfold State.cycleLostTruncates
  split
  · exact keeps_truncateCapture
  · exact .refl s

theorem Recorder.capturing_some {r : Recorder} {k : Fin 8} (h : r.capturing = some k) :
    r.slots[k].state = .capturing := by
  simpa using List.find?_some h

theorem Recorder.capturing_none {r : Recorder} : r.capturing = none ↔ ∀ k : Fin 8, r.slots[k].state ≠ .capturing := by
  simp [Recorder.capturing, List.find?_eq_none]

theorem keeps_appendToCapture (p : Snapshot) (n : Nat) : Keeps s (s.appendToCapture p n) := by
  unfold State.appendToCapture
  split
  · exact .refl s
  next k h =>
    have hslot := keeps_setSlot (s := s) k (x := s.recorder.slots[k].appended p n) fun _ => Recorder.capturing_some h
    dsimp only
    split
    · exact hslot.trans (keeps_raiseAttention _)
    · exact hslot

theorem pushHistory_length {h : List Snapshot} (p : Snapshot) (hl : h.length ≤ 1024) : (pushHistory h p).length ≤ 1024 := by
  unfold pushHistory
  split <;> simp <;> omega

theorem keeps_writeSnapshot : Keeps s s.writeSnapshot := by
  unfold State.writeSnapshot
  split
  · exact (keeps_recorder_same (r := { s.recorder with history := pushHistory s.recorder.history s.snapshot, marker := none })
      (pushHistory_length _) rfl rfl).trans (keeps_appendToCapture ..)
  · exact .refl s

/-! ## Raises of causes (R142 to R146) -/

/-- R144, R146: the later causes with a new one that was not known. -/
theorem LaterLaw.snoc {r : CauseRecord} {n : Nat} (h : LaterLaw s) (hnew : s.tru.known r.cause = false) :
    LaterLaw { s with tru := { s.tru with later := s.tru.later ++ [(r.cause, n)] } } := by
  obtain ⟨hdistinct, hfirst⟩ := h
  simp only [TripUnit.known, Bool.or_eq_false_iff, List.any_eq_false, beq_iff_eq] at hnew
  obtain ⟨hnotFirst, hnotLater⟩ := hnew
  constructor
  · simpa [List.nodup_append, hdistinct] using hnotLater
  · intro x hx e he
    rw [List.mem_append, List.mem_singleton] at he
    rcases he with he | rfl
    · exact hfirst x hx e he
    · intro heq
      have hx' : s.tru.first = some x := hx
      simp only [hx', beq_eq_false_iff_ne] at hnotFirst
      exact hnotFirst heq.symm

theorem keeps_laterCause (r : CauseRecord) : Keeps s (s.laterCause r) := by
  unfold State.laterCause
  dsimp only
  split
  · exact keeps_cycleLostTruncates _
  next hnew =>
    split
    next hl =>
      have hlist : Keeps s (({ s with tru := { s.tru with later := s.tru.later ++ [(r.cause, s.tru.age)] } } : State).recordLater
          r.cause s.tru.age) :=
        (keeps_tru (x := { s.tru with later := s.tru.later ++ [(r.cause, s.tru.age)] }) rfl
          (fun _ => by rw [List.length_append]; exact hl) fun h => h.snoc (by simpa using hnew)).trans (keeps_updateTripHeader _)
      split
      · exact hlist.trans (keeps_inEitherOrder (fun _ => keeps_raiseAttention _) fun _ => keeps_truncateCapture)
      · exact hlist.trans (keeps_raiseAttention _)
    next =>
      have hdropped : Keeps s { s with tru := { s.tru with dropped := bumpBy 255 1 s.tru.dropped } } := keeps_tru rfl id id
      exact (hdropped.trans (keeps_updateTripHeader _)).trans (keeps_cycleLostTruncates _)

/-- R157: a capture starts in a slot that is then the current one, and in no other. -/
theorem State.startCapture_capturing (r : CauseRecord) {k : Fin 8} (h : (s.startCapture r).1.slots[k].state = .capturing) :
    s.recorder.slots[k].state = .capturing ∨ (s.startCapture r).1.currentSlot = some k := by
  unfold State.startCapture at h ⊢
  split at h
  next j b _ _ =>
    by_cases e : j = k
    · exact .inr (congrArg some e)
    · refine .inl ?_
      have hk := Recorder.setSlot_slots s.recorder j k
      simp only [Recorder.setSlot] at h hk
      rwa [hk, if_neg e] at h
  next => exact .inl h

@[simp] theorem State.startCapture_history (r : CauseRecord) : (s.startCapture r).1.history = s.recorder.history := by
  unfold State.startCapture
  split <;> rfl

/-- R144: the Trip Unit's declaration, the capture and TRIPPED together. What is left to do is end the breakaway allowance. -/
def State.trippedWith (r : CauseRecord) (s : State) : State :=
  ({ s with tru := s.tru.declare r s.cycleTag, recorder := (s.startCapture r).1 } : State).enterTripped

theorem State.trippedWith_bank (r : CauseRecord) (hb : s.seq.drive ≠ .blocked) (h : BankLaw s) :
    BankLaw (s.trippedWith r) where
  empty_blocked hn := absurd (h.empty_blocked (by simpa [State.trippedWith] using hn)) hb
  active_valid b hbank := by simpa [State.trippedWith] using h.active_valid b (by simpa [State.trippedWith] using hbank)
  pending_valid ha := by simpa [State.trippedWith] using h.pending_valid (by simpa [State.trippedWith] using ha)

theorem State.trippedWith_capture (r : CauseRecord) (ht : s.seq.drive ≠ .tripped) (h : CaptureLaw s) :
    CaptureLaw (s.trippedWith r) := by
  refine ⟨by simp [State.trippedWith, TripUnit.declare], fun k hk => ?_⟩
  simp only [State.trippedWith, State.enterTripped_recorder, State.enterTripped_drive, true_and] at hk ⊢
  exact (State.startCapture_capturing r hk).resolve_left fun hold => ht (h.2 k hold).1

theorem State.trippedWith_stores (r : CauseRecord) (h : StoreLaw s) : StoreLaw (s.trippedWith r) := by
  constructor <;> simp [State.trippedWith, TripUnit.declare, h.buffer, h.pair, h.queue, h.shocks, h.history, h.notices]

theorem keeps_declareTrip {r : CauseRecord} (hb : s.seq.drive ≠ .blocked) (ht : s.seq.drive ≠ .tripped) :
    Keeps s (s.declareTrip r) := by
  have hrest : Keeps (s.trippedWith r) (s.declareTrip r) := by
    have hcore : Keeps (s.trippedWith r) (s.declaredCore r) := by
      unfold State.declaredCore
      dsimp only
      refine .trans ?_ ((keeps_abandonBreakaway.trans keeps_endPin).trans (keeps_answerActivation _))
      split
      · exact keeps_leaveRunning
      · exact .refl _
    unfold State.declareTrip
    split
    · exact hcore.trans (keeps_raiseAttention _)
    · exact hcore.trans (keeps_inEitherOrder (fun _ => keeps_raiseAttention _) fun _ => keeps_raiseAll _)
  obtain ⟨hdrive, htru, hgrant, hpending, hallowance, -⟩ := s.declareTrip_spec r
  exact
    { drive := fun h => ⟨by simp [hdrive, htru, TripUnit.declare], fun _ => .inr hdrive, by simp [hdrive], by simp [hpending],
        by simp [hallowance]⟩
      bank := fun h => hrest.bank (s.trippedWith_bank r hb h)
      capture := fun h => hrest.capture (s.trippedWith_capture r ht h)
      stores := fun h => hrest.stores (s.trippedWith_stores r h)
      later := fun _ => hrest.later (by simp [LaterLaw, State.trippedWith, TripUnit.declare])
      accumulators := fun h => hrest.accumulators (by simpa [AccumulatorLaw, State.trippedWith] using h)
      ceilings := fun h => hrest.ceilings (by simpa [CeilingLaw, State.trippedWith] using h)
      queue := s.declareTrip_pending r }

theorem keeps_raiseCause (c : Cause) (who : Who) (detail : Int) : Keeps s (s.raiseCause c who detail) := by
  have hflag : Keeps s { s with tru := { s.tru with standing := s.tru.standing.raised c } } := keeps_tru rfl id id
  rcases s.raiseCause_cases c who detail with e | ⟨-, -, e⟩ | ⟨-, -, e⟩ | ⟨-, ht, hb, e⟩ <;> rw [e]
  · exact hflag
  · exact hflag.trans (keeps_reportCause _)
  · exact hflag.trans (keeps_laterCause _)
  · exact hflag.trans (keeps_declareTrip hb ht)

end Sys2Proof.Machine
end

section
/-! PROOF. Vibration Watch, Torque Limiter, Torque Splitter, Armature Regulators and Drive Sequencer keep every law. -/

namespace Sys2Proof.Machine

variable {s t u : State}

/-! ## Vibration Watch (R107) -/

/-- R107: a ceiling depends on which channels of its pinion are in ALARM, and on nothing else. -/
theorem ceilingOf_congr {b : Bank} {m : Motor} {v w : Vector Channel 4}
    (h : ∀ k : Fin 4, b.dc.g2.pinion[k] = m → (v[k].conf.state = .alarm ↔ w[k].conf.state = .alarm)) :
    ceilingOf b v m = ceilingOf b w m := by
  unfold ceilingOf
  congr 1
  rw [List.any_eq_true, List.any_eq_true]
  simp only [Bool.and_eq_true, beq_iff_eq]
  exact propext (exists_congr fun k => and_congr_right fun _ => and_congr_right (h k))

theorem State.setChannel_channel (k j : Fin 4) (x : Channel) (s : State) :
    (s.setChannel k x).channel j = if k = j then x else s.channel j := by
  simp [State.setChannel, State.channel, Vector.getElem_set, Fin.ext_iff]

/-- A write of channels that takes none into or out of ALARM. -/
theorem keeps_channels {v : Vector Channel 4}
    (hv : ∀ k : Fin 4, v[k].conf.state = .alarm ↔ s.vib.channels[k].conf.state = .alarm) :
    Keeps s { s with vib := { s.vib with channels := v } } := by
  refine keeps_vib fun h => ?_
  unfold CeilingLaw at h ⊢
  cases hb : s.sched.active with
  | none => simpa [hb] using h
  | some b =>
    simp only [hb] at h ⊢
    rw [h, ceilingOf_congr (v := v) fun k _ => hv k, ceilingOf_congr (v := v) fun k _ => hv k]

theorem keeps_setChannel (k : Fin 4) {x : Channel}
    (hx : x.conf.state = .alarm ↔ (s.channel k).conf.state = .alarm) : Keeps s (s.setChannel k x) := by
  refine keeps_channels fun j => ?_
  have hj := State.setChannel_channel k j x s
  simp only [State.setChannel, State.channel] at hj hx
  rw [hj]
  split
  next e => exact e ▸ hx
  next => rfl

/-- A map of the channels that takes none into or out of ALARM. -/
theorem keeps_mapChannels {f : Fin 4 → Channel → Channel}
    (hf : ∀ k x, (f k x).conf.state = .alarm ↔ x.conf.state = .alarm) : Keeps s (s.mapChannels f) := by
  refine keeps_channels fun k => ?_
  match k with
  | 0 => exact hf 0 _
  | 1 => exact hf 1 _
  | 2 => exact hf 2 _
  | 3 => exact hf 3 _

/-- R107: both ceilings formed again are what the law asks for. -/
theorem State.reformCeilings_law (s : State) : CeilingLaw s.reformCeilings := by
  unfold State.reformCeilings
  cases hb : s.sched.active <;> simp [CeilingLaw, hb]

theorem State.reformCeilings_eq (s : State) : s.reformCeilings = { s with vib := s.reformCeilings.vib } := by
  unfold State.reformCeilings
  split <;> rfl

/-- R107: with both ceilings formed again the channels may be what they are. -/
theorem keeps_channels_reformed {v : Vector Channel 4} :
    Keeps s ({ s with vib := { s.vib with channels := v } } : State).reformCeilings := by
  have hlaw := State.reformCeilings_law { s with vib := { s.vib with channels := v } }
  rw [State.reformCeilings_eq] at hlaw ⊢
  exact keeps_vib fun _ => hlaw

/-- R107: a change of channel `k` into or out of ALARM with the ceiling of its pinion formed again. -/
theorem keeps_setChannel_reformed {b : Bank} (hb : s.sched.active = some b) (k : Fin 4) (x : Channel) :
    Keeps s ((s.setChannel k x).reformCeiling b b.dc.g2.pinion[k]) := by
  refine keeps_vib (v := ((s.setChannel k x).reformCeiling b b.dc.g2.pinion[k]).vib) fun h => ?_
  have hother : ∀ m, b.dc.g2.pinion[k] ≠ m → ceilingOf b s.vib.channels m = ceilingOf b (s.setChannel k x).vib.channels m := by
    refine fun m hm => ceilingOf_congr fun j hj => ?_
    have hset := State.setChannel_channel k j x s
    rw [if_neg fun e => hm (by rw [e, hj])] at hset
    exact (congrArg (·.conf.state = .alarm) hset).symm.to_iff
  simp only [CeilingLaw, hb, State.reformCeiling] at h ⊢
  have hkept : (s.setChannel k x).vib.ceiling = s.vib.ceiling := rfl
  rw [hkept, h]
  cases hp : b.dc.g2.pinion[k]
  · simp [PerMotor.set, hother .b (by simp [hp])]
  · simp [PerMotor.set, hother .a (by simp [hp])]

theorem keeps_raiseVibEvent (k : Fin 4) (n : Nat) (e : VibEvent) : Keeps s (s.raiseVibEvent k n e) := by
  cases e with
  | alarmEntry => exact keeps_raiseAttention _
  | warningEntry => exact keeps_raiseAttention _
  | deadEntry => exact keeps_raiseCause ..
  | persists => exact keeps_raiseCause ..

theorem keeps_raiseVibEvents (k : Fin 4) (n : Nat) (es : List VibEvent) :
    Keeps s (es.foldl (fun t e => t.raiseVibEvent k n e) s) := by
  induction es generalizing s with
  | nil => exact .refl s
  | cons e es ih => exact (keeps_raiseVibEvent k n e).trans ih

theorem keeps_closeWindow {b : Bank} (hb : s.sched.active = some b) (k : Fin 4) : Keeps s (s.closeWindow b k) := by
  unfold State.closeWindow
  dsimp only
  split
  · exact keeps_setChannel k Iff.rfl
  · split
    · refine .trans ?_ (keeps_raiseVibEvents k _ _)
      split
      · exact keeps_setChannel_reformed hb k _
      next h =>
        refine keeps_setChannel k ?_
        rw [Bool.not_eq_true, bne_eq_false_iff_eq, Bool.eq_iff_iff, beq_iff_eq, beq_iff_eq] at h
        exact h.symm
    · exact keeps_setChannel k Iff.rfl

theorem keeps_closeIfFull {b : Bank} (hb : s.sched.active = some b) (k : Fin 4) : Keeps s (s.closeIfFull b k) := by
  unfold State.closeIfFull
  dsimp only
  split
  · exact keeps_closeWindow hb k
  · exact .refl s

theorem Channel.addBlock_conf (x : Channel) (angle : Nat) (samples : List Int) : (x.addBlock angle samples).conf = x.conf := by
  have hsamples : ∀ (l : List Int) (y : Channel), (l.foldl (Channel.addSample (angle / 64)) y).conf = y.conf := by
    intro l
    induction l with
    | nil => exact fun _ => rfl
    | cons d l ih => exact fun y => ih _
  exact hsamples samples x

theorem keeps_vibrationBlock (k : Fin 4) (q angle : Nat) (samples : List Int) : Keeps s (s.vibrationBlock k q angle samples) := by
  unfold State.vibrationBlock
  split
  · exact .refl s
  next b hb =>
    dsimp only
    split
    · exact keeps_setChannel k Iff.rfl
    · have hlost : ∀ g, Keeps s (if 0 < g then (s.setChannel k ((s.channel k).missBlocks g)).closeIfFull b k else s) := by
        intro g
        split
        · exact .after (keeps_closeIfFull (by simpa using hb) k) (keeps_setChannel k Iff.rfl)
        · exact .refl s
      refine .after (keeps_setChannel k Iff.rfl) (.after (keeps_closeIfFull ?_ k) (.after (keeps_setChannel k ?_) (hlost _)))
      · rw [State.setChannel_sched]
        split <;> simpa using hb
      · rw [Channel.addBlock_conf]

theorem keeps_discardWindows (m : Motor) : Keeps s (s.discardWindows m) := by
  unfold State.discardWindows
  split
  · exact .refl s
  · exact keeps_mapChannels fun k x => by split <;> rfl

theorem keeps_requestClearAlarms : Keeps s (requestClearAlarms s).1 := keeps_channels_reformed

theorem keeps_vibrationOnReady : Keeps s s.vibrationOnReady := keeps_channels_reformed

/-! ## Torque Limiter -/

/-- A write of what the limiter keeps for the motors. -/
theorem keeps_motor (x : PerMotor MotorLimits) : Keeps s { s with lim := { s.lim with motor := x } } := keeps_lim id id

theorem keeps_achieveBreakaway (b : Bank) (v : Int) : Keeps s (s.achieveBreakaway b v) := by
  unfold State.achieveBreakaway
  split
  · exact .refl s
  · split
    · exact keeps_lim (fun h => absurd rfl h) id
    · exact .refl s

theorem keeps_countBreakaway : Keeps s s.countBreakaway := by
  unfold State.countBreakaway
  split
  · exact .refl s
  next n hn =>
    split
    · exact .after (keeps_raiseCause ..) (keeps_lim (fun h => absurd rfl h) id)
    · exact keeps_lim (fun _ => by simp [hn]) id

theorem ageShocks_length (n : Nat) (l : List ShockEntry) : (ageShocks n l).length ≤ l.length :=
  (List.length_filter_le _ _).trans (by simp)

theorem keeps_limiterMark : Keeps s s.limiterMark := by
  unfold State.limiterMark
  refine .after keeps_countBreakaway (keeps_lim id fun h => ?_)
  dsimp only
  split
  · exact h
  · exact (ageShocks_length _ _).trans h

theorem pushShock_length {l : List ShockEntry} (e : ShockEntry) (h : l.length ≤ 8) : (pushShock l e).length ≤ 8 := by
  unfold pushShock
  split <;> simp <;> omega

theorem keeps_shockEvent (b : Bank) (m : Motor) (d : Int) : Keeps s (s.shockEvent b m d) := by
  unfold State.shockEvent
  dsimp only
  refine .after (keeps_discardWindows m) ?_
  have hlisted := keeps_lim (s := s) (l := { s.lim with
    shocks := pushShock s.lim.shocks ⟨m, s.cycleTag, 0⟩
    motor := s.lim.motor.set m { s.lim.motor.get m with
      hold := b.dc.g0.shockHold, reloaded := true, shockCount := bump (s.lim.motor.get m).shockCount } })
    id (pushShock_length _)
  split
  · exact .after (keeps_raiseCause ..) (.after (keeps_raiseAttention _) hlisted)
  · exact .after (keeps_raiseAttention _) hlisted

theorem keeps_measureTorque (b : Bank) (m : Motor) (flux : Nat) : Keeps s (s.measureTorque b m flux) := by
  unfold State.measureTorque
  dsimp only
  refine .after (keeps_motor _) ?_
  split
  · exact keeps_shockEvent ..
  · exact .refl s

theorem keeps_forgetTorque (m : Motor) : Keeps s (s.forgetTorque m) := keeps_motor _

theorem keeps_watchOverspeed (b : Bank) (v : Int) : Keeps s (s.watchOverspeed b v) := by
  unfold State.watchOverspeed
  split
  · exact keeps_raiseCause ..
  · exact .refl s

/-! ## Torque Splitter -/

theorem keeps_checkImbalance (g : Group0) (ia ib : Int) : Keeps s (s.checkImbalance g ia ib) := by
  unfold State.checkImbalance
  dsimp only
  have hcount : Keeps s { s with split := { s.split with
      imbalanceCount := imbalanceAfter g s.split.imbalanceCount (ia - ib).natAbs } } := keeps_split_acc rfl rfl
  split
  · exact .after (keeps_raiseCause ..) hcount
  · exact hcount

theorem keeps_raiseLimits (x y : Bool) (a b : Raise) : Keeps s (s.raiseLimits x y a b) := by
  unfold State.raiseLimits
  split
  · exact .refl s
  · exact keeps_raiseAttention _
  · exact keeps_raiseAttention _
  · exact keeps_inEitherOrder (fun _ => keeps_raiseAttention _) fun _ => keeps_raiseAttention _

/-- R46, R47: the share accumulator updated or held, with the trim formed from it. -/
theorem keeps_share {b : Bank} (hb : s.sched.active = some b) (held : Bool) (ia ib : Int) :
    Keeps s { s with split := { s.split with
      acc := if held then s.split.acc else updatedShare s.split.acc b.dc.g0.ks b.dc.g0.trimMax ia ib
      trim := trimOf (if held then s.split.acc else updatedShare s.split.acc b.dc.g0.ks b.dc.g0.trimMax ia ib) } } := by
  refine keeps_split fun h c hc => ?_
  obtain rfl : b = c := by simpa [hb] using hc
  obtain ⟨hacc, -, hreg⟩ := h b hb
  refine ⟨?_, rfl, hreg⟩
  dsimp only
  split
  · exact hacc
  · exact natAbs_clampInt_le _ (by simp)

theorem keeps_splitEvent {b : Bank} (hb : s.sched.active = some b) : Keeps s (s.splitEvent b) := by
  unfold State.splitEvent
  dsimp only
  refine .after (keeps_split_acc rfl rfl) (.after (keeps_raiseLimits ..) (.after (keeps_motor _) ?_))
  have hshare := keeps_share hb s.shareHeld s.intake.arm.a.current s.intake.arm.b.current
  split
  next h => simpa only [h, if_true] using hshare
  next h => exact .after (keeps_checkImbalance ..) (by simpa only [h, if_neg, Bool.false_eq_true, if_false] using hshare)

theorem keeps_idleEvent (b : Bank) : Keeps s (s.idleEvent b) :=
  (keeps_split_acc (p := { s.split with prevLimited := PerMotor.both false, lastSplit := PerMotor.both 0 }) rfl rfl).trans
    (keeps_motor _)

theorem keeps_referenceEvent : Keeps s s.referenceEvent := by
  unfold State.referenceEvent
  split
  · exact .refl s
  next b hb =>
    dsimp only
    have hmade : Keeps s { s with
        intake := { s.intake with refMade := true }
        lim := { s.lim with breakawayAtRef := s.lim.breakaway.isSome } } :=
      .after (keeps_intake _) (keeps_lim (l := { s.lim with breakawayAtRef := s.lim.breakaway.isSome }) id id)
    split
    · exact .after (keeps_splitEvent hb) hmade
    · exact .after (keeps_idleEvent b) hmade

/-! ## Armature Regulators -/

theorem keeps_testOvercurrent (b : Bank) (m : Motor) : Keeps s (s.testOvercurrent b m) := by
  unfold State.testOvercurrent
  dsimp only
  split
  · have hflag : ∀ x : Bool, Keeps s { s with reg := s.reg.set m { s.reg.get m with overcurrent := x } } := fun _ =>
      keeps_reg_set m rfl
    split
    · exact .after (keeps_raiseCause ..) (hflag _)
    · exact hflag _
  · exact .refl s

theorem keeps_reportRegulation (m : Motor) : Keeps s (s.reportRegulation m) := by
  unfold State.reportRegulation
  dsimp only
  split
  · exact (keeps_intake _).trans keeps_produceEcho
  · exact keeps_intake _

theorem keeps_eventFrame (m : Motor) (v : Int) (n : Nat) : Keeps s (s.eventFrame m v n) := by
  unfold State.eventFrame
  split
  · exact keeps_produceDrive ..
  · split
    · exact keeps_drawn.trans (keeps_produceDrive ..)
    · exact keeps_drawn

/-- R81: the loop leaves the accumulator it had or one clamped to 256 × Vlim. -/
theorem regulateLoop_acc_le {acc : Int} (kp ki : Nat) {vlim : Nat} (iref imeas : Int) (h : acc.natAbs ≤ 256 * vlim) :
    (regulateLoop acc kp ki vlim iref imeas).acc.natAbs ≤ 256 * vlim := by
  unfold regulateLoop
  dsimp only
  split
  · exact h
  · exact natAbs_clampInt_le _ (by simp)

theorem keeps_regulated {b : Bank} (hb : s.sched.active = some b) (m : Motor) (kp ki limit : Nat) (iref imeas : Int) :
    Keeps s { s with reg := s.reg.set m ((s.reg.get m).regulated
      (regulateLoop (s.reg.get m).acc kp ki b.dc.g0.vlim iref imeas) limit) } := by
  refine keeps_reg fun h c hc => ?_
  obtain rfl : b = c := by simpa [hb] using hc
  obtain ⟨hacc, htrim, hra, hrb⟩ := h b hb
  cases m
  · exact ⟨hacc, htrim, regulateLoop_acc_le kp ki iref imeas hra, hrb⟩
  · exact ⟨hacc, htrim, hra, regulateLoop_acc_le kp ki iref imeas hrb⟩

theorem keeps_regulate {b : Bank} (hb : s.sched.active = some b) (m : Motor) : Keeps s (s.regulate b m) := by
  unfold State.regulate
  dsimp only
  refine .after (keeps_eventFrame ..) ?_
  have hloop := keeps_regulated hb m (s.sched.speedRow b).kp (s.sched.speedRow b).ki b.dc.g0.satLimit
    (s.lim.motor.get m).iref (s.intake.arm.get m).current
  split
  · exact .after (keeps_raiseCause ..) hloop
  · exact hloop

theorem keeps_regulationEvent (m : Motor) : Keeps s (s.regulationEvent m) := by
  unfold State.regulationEvent
  split
  · exact .refl s
  next b hb =>
    split
    · exact .after (keeps_reportRegulation m) (.after (keeps_measureTorque b m _)
        (.after (keeps_testOvercurrent b m) (keeps_regulate hb m)))
    · exact .after (keeps_reportRegulation m) (.after (keeps_forgetTorque m)
        (.after (keeps_testOvercurrent b m) (keeps_reg_set m rfl)))

theorem keeps_regulateIf (due : Bool) (m : Motor) : Keeps s (s.regulateIf due m) := by
  unfold State.regulateIf
  split
  · exact keeps_regulationEvent m
  · exact .refl s

theorem keeps_regulateDue (x y : Bool) : Keeps s (s.regulateDue x y) := by
  unfold State.regulateDue
  split
  · exact keeps_inEitherOrder (fun _ => keeps_regulationEvent _) fun _ => keeps_regulationEvent _
  · exact (keeps_regulateIf ..).trans (keeps_regulateIf ..)

theorem keeps_markDriveFrames : Keeps s s.markDriveFrames := by
  unfold State.markDriveFrames
  split
  · exact .refl s
  · exact keeps_produceBlocks

end Sys2Proof.Machine
end

section
/-! PROOF. Drive Sequencer, Schedule Store, Intake and Recorder keep every law. -/

namespace Sys2Proof.Machine

variable {s t u : State}

/-! ## Changes of drive state (R115 to R119) -/

theorem keeps_raiseMarkLoss : Keeps s s.raiseMarkLoss := by
  unfold State.raiseMarkLoss
  split
  · exact keeps_raiseCause ..
  · exact .refl s

/-- A drive state in which neither a trip, nor a grant, nor a pending takeover, nor an allowance is asked for. -/
theorem DriveLaw.of_plain (hdrive : t.seq.drive ≠ .tripped) (hdeclared : t.tru.declared = false)
    (haux : t.seq.drive ≠ .auxiliary) (hgrant : t.seq.grant = .none)
    (hpending : t.seq.pendingTakeover = true → t.seq.drive = .stopping)
    (hallowance : t.lim.breakaway ≠ none → t.seq.drive = .running ∨ t.seq.drive = .turning) : DriveLaw t :=
  ⟨by simp [hdrive, hdeclared], fun h => absurd hgrant h, fun h => absurd h haux, hpending, hallowance⟩

/-- What the law says of a drive state other than AUXILIARY and TRIPPED. -/
theorem DriveLaw.plain (h : DriveLaw s) (ht : s.seq.drive ≠ .tripped) (ha : s.seq.drive ≠ .auxiliary) :
    s.tru.declared = false ∧ s.seq.grant = .none := by
  refine ⟨by simpa [ht] using h.declared_iff_tripped, ?_⟩
  by_contra hg
  exact (h.grant_held hg).elim ha ht

/-- In a drive state that has neither, no takeover is pending and no allowance runs. -/
theorem DriveLaw.idle (h : DriveLaw s) (hr : s.seq.drive.isRunning = false) :
    s.seq.pendingTakeover = false ∧ s.lim.breakaway = none := by
  constructor
  · by_contra hp
    simp [h.pending_stopping (by simpa using hp), DriveState.isRunning] at hr
  · by_contra hb
    rcases h.allowance_started hb with e | e <;> simp [e, DriveState.isRunning] at hr

/-- R116: Enable and Disable, between BLOCKED and READY. -/
theorem keeps_setDrive_idle {d : DriveState} (hs : s.seq.drive = .blocked ∧ s.sched.active ≠ none ∨ s.seq.drive = .ready)
    (hd : d = .blocked ∨ d = .ready) : Keeps s (s.setDrive d) := by
  refine keeps_seq (fun h => ?_) ?_ ?_
  · obtain ⟨hdeclared, hgrant⟩ := h.plain (by aesop) (by aesop)
    obtain ⟨hpending, hallowance⟩ := h.idle (by rcases hs with ⟨e, -⟩ | e <;> simp [e, DriveState.isRunning])
    exact .of_plain (by aesop) hdeclared (by aesop) hgrant (fun hp => absurd hpending (by simpa using hp))
      (fun hb => absurd hallowance hb)
  · aesop
  · aesop

theorem keeps_answerNewState (d : DriveState) : Keeps s (answerNewState d s).1 := by
  unfold answerNewState
  split
  · exact .refl s
  · exact keeps_drawn

theorem keeps_runControl {a : Asker} {allowed : Bool} {act : State → Answered}
    (h : allowed = true → Keeps s (act s).1) : Keeps s (runControl a allowed act s).1 := by
  unfold runControl
  split
  · exact .refl s
  · split
    next hallowed => exact h hallowed
    next => exact .refl s

theorem keeps_requestEnable (a : Asker) : Keeps s (requestEnable a s).1 := by
  refine keeps_runControl fun h => .after (keeps_answerNewState _) ?_
  simp only [Bool.and_eq_true, beq_iff_eq, Option.isSome_iff_ne_none] at h
  exact keeps_setDrive_idle (.inl ⟨h.1.1, h.1.2⟩) (.inr rfl)

theorem keeps_requestDisable (a : Asker) : Keeps s (requestDisable a s).1 :=
  keeps_runControl fun h => .after (keeps_answerNewState _) (keeps_setDrive_idle (.inr (by simpa using h)) (.inl rfl))

theorem State.startBreakaway_eq (s : State) :
    s.startBreakaway = { s with lim := { s.lim with
      breakaway := s.startBreakaway.lim.breakaway, outcome := s.startBreakaway.lim.outcome } } := by
  unfold State.startBreakaway
  split
  · rfl
  · split <;> rfl

/-- R115: an entry to RUNNING or TURNING changes nothing the laws read but the drive state, a pending takeover, an allowance, and
accumulators and a shock list that are cleared. -/
theorem keeps_entry {r : PerMotor Regulator} {p : Splitter} {l : Limiter} {q : Sequencer}
    (hs : s.seq.drive = .ready ∨ s.seq.drive = .stopping) (hq : q.drive = .running ∨ q.drive = .turning)
    (hgrant : q.grant = s.seq.grant) (hpending : s.seq.drive = .stopping → q.pendingTakeover = false)
    (hpending' : q.pendingTakeover = true → s.seq.pendingTakeover = true)
    (hacc : p.acc = s.split.acc) (htrim : p.trim = s.split.trim)
    (hra : r.a.acc = s.reg.a.acc ∨ r.a.acc = 0) (hrb : r.b.acc = s.reg.b.acc ∨ r.b.acc = 0)
    (hl : s.lim.shocks.length ≤ 8 → l.shocks.length ≤ 8) :
    Keeps s { s with split := p, lim := l, reg := r, seq := q } := by
  have hreg : Keeps s { s with split := p, reg := r } := 
    .after (keeps_reg_acc (s := { s with split := p }) hra hrb) (keeps_split_acc hacc htrim)
  refine ⟨⟨fun h => ?_, fun h => ⟨?_, h.active_valid, h.pending_valid⟩, fun h => ?_, fun h => ?_, id, hreg.accumulators, id⟩, rfl⟩
  · obtain ⟨hdeclared, hnone⟩ := h.plain (by aesop) (by aesop)
    refine .of_plain (by aesop) hdeclared (by aesop) (hgrant.trans hnone) (fun hp => ?_) (fun _ => hq)
    rcases hs with hs | hs
    · exact absurd (h.idle (by simp [hs, DriveState.isRunning])).1 (by simpa using hpending' hp)
    · exact absurd (hpending hs) (by simpa using hp)
  · exact fun hn => absurd (h.empty_blocked hn) (by aesop)
  · exact ⟨h.1.trans (by aesop), fun k hk => absurd (h.2 k hk).1 (by aesop)⟩
  · exact ⟨h.buffer, h.pair, h.queue, hl h.shocks, h.later, h.history, h.notices⟩

theorem State.declinePending_eq (n : Nat) (s : State) : s.declinePending n = { s with seq := (s.declinePending n).seq } := by
  unfold State.declinePending State.produceDecline State.produceAux
  split
  · split <;> rfl
  · rfl

theorem keeps_startRun (hs : s.seq.drive = .ready ∨ s.seq.drive = .stopping) : Keeps s s.startRun := by
  unfold State.startRun
  refine .after keeps_raiseMarkLoss ?_
  dsimp only
  rw [State.declinePending_eq, State.startBreakaway_eq]
  split
  · exact keeps_entry hs (.inl (by simp)) (by simp) (by simp) (by simp) rfl rfl (.inr rfl) (.inr rfl) (fun _ => Nat.zero_le _)
  · exact keeps_entry hs (.inl (by simp)) (by simp) (by simp) (by simp) rfl rfl (.inl rfl) (.inl rfl) id

theorem keeps_requestStartRun (a : Asker) : Keeps s (requestStartRun a s).1 :=
  keeps_runControl fun h => .after (keeps_answerNewState _) (keeps_startRun (by simpa using h))

theorem keeps_startTurning (hs : s.seq.drive = .ready) : Keeps s s.startTurning := by
  unfold State.startTurning
  refine .after keeps_raiseMarkLoss ?_
  dsimp only
  rw [State.startBreakaway_eq]
  exact keeps_entry (.inl hs) (.inr rfl) rfl (by simp [hs]) id rfl rfl (.inr rfl) (.inr rfl) (fun _ => Nat.zero_le _)

theorem keeps_requestStartTurning (a : Asker) : Keeps s (requestStartTurning a s).1 :=
  keeps_runControl fun h => .after (keeps_answerNewState _) (keeps_startTurning (by simpa using h))

theorem State.abandonBreakaway_eq (s : State) :
    s.abandonBreakaway = { s with lim := { s.lim with breakaway := none, outcome := s.abandonBreakaway.lim.outcome } } := by
  unfold State.abandonBreakaway
  split
  next h => rw [← h]
  next => rfl

theorem keeps_enterStopping (hs : s.seq.drive = .running ∨ s.seq.drive = .turning) : Keeps s s.enterStopping := by
  unfold State.enterStopping
  dsimp only
  rw [State.abandonBreakaway_eq]
  have hlim : ∀ o, Keeps s { s with lim := { s.lim with breakaway := none, outcome := o } } := fun o =>
    keeps_lim (fun h => absurd rfl h) id
  refine (hlim _).trans (keeps_seq (s := { s with lim := _ }) (fun h => ?_) (by aesop) (by aesop))
  obtain ⟨hdeclared, hgrant⟩ := h.plain (by aesop) (by aesop)
  exact .of_plain (by simp) hdeclared (by simp) hgrant (fun _ => rfl) (by simp)

theorem keeps_requestStop (a : Asker) : Keeps s (requestStop a s).1 :=
  keeps_runControl fun h => .after (keeps_answerNewState _)
    (.after keeps_raiseMarkLoss (keeps_enterStopping (by simpa using h)))

/-! ## Hot stop and auxiliary drive (R122 to R134) -/

theorem keeps_intervalRestarted (b : Bank) : Keeps s (s.intervalRestarted b) := keeps_seq_same rfl rfl rfl

theorem keeps_intervalRestarted_if (b : Bank) (p : Prop) [Decidable p] : Keeps s (if p then s.intervalRestarted b else s) := by
  split
  · exact keeps_intervalRestarted b
  · exact .refl s

theorem keeps_startOverdue : Keeps s s.startOverdue := by
  unfold State.startOverdue
  split
  · exact keeps_seq_same rfl rfl rfl
  · exact .refl s

theorem keeps_makeTurnDue : Keeps s s.makeTurnDue :=
  .after keeps_startOverdue (.after (keeps_raiseAttention _) (keeps_seq_same rfl rfl rfl))

theorem keeps_requestSetHot : Keeps s (requestSetHot s).1 := by
  unfold requestSetHot
  split
  · exact .refl s
  · split
    · exact .refl s
    · exact keeps_seq_same rfl rfl rfl

theorem keeps_requestClearHot : Keeps s (requestClearHot s).1 := keeps_seq_same rfl rfl rfl

/-- R130: AUXILIARY with the gear granted, from READY. -/
theorem keeps_judgeTakeover (hs : s.seq.drive = .ready) : Keeps s s.judgeTakeover := by
  unfold State.judgeTakeover
  split
  · exact keeps_produceDecline _
  · refine .after keeps_produceHandover (keeps_seq (fun h => ?_) (by simp [hs]) (by simp [hs]))
    obtain ⟨hpending, hallowance⟩ := h.idle (by simp [hs, DriveState.isRunning])
    have hdeclared := (h.plain (by simp [hs]) (by simp [hs])).1
    exact ⟨by simp [hdeclared], fun _ => .inl rfl, fun _ => by simp, fun hp => absurd hpending (by simpa using hp),
      fun hb => absurd hallowance hb⟩

theorem keeps_takeTakeover : Keeps s s.takeTakeover := by
  unfold State.takeTakeover
  split
  · exact keeps_produceDecline _
  · split
    · exact keeps_produceHandover
    · exact keeps_produceRecall
    next hgrant =>
      split
      next hs => exact keeps_judgeTakeover hs
      next hs =>
        exact keeps_seq (fun h => ⟨h.declared_iff_tripped, h.grant_held, h.auxiliary_granted, fun _ => hs,
          h.allowance_started⟩) Iff.rfl (fun h _ => h)
      · exact keeps_produceDecline _
      · exact keeps_produceDecline _
      · exact keeps_produceDecline _
      · exact keeps_produceDecline _
      · exact .refl s

theorem keeps_answerRecall : Keeps s s.answerRecall := by
  unfold State.answerRecall
  split
  · exact keeps_makeTurnDue
  · exact .refl s

theorem keeps_takeBack : Keeps s s.takeBack := by
  unfold State.takeBack
  dsimp only
  split
  next hs =>
    refine keeps_seq (fun h => ?_) (by simp [hs]) (by simp [hs])
    obtain ⟨hpending, hallowance⟩ := h.idle (by simp [hs, DriveState.isRunning])
    have hdeclared : s.tru.declared = false := by simpa [hs] using h.declared_iff_tripped
    exact .of_plain (by simp) hdeclared (by simp) rfl (fun hp => absurd hpending (by simpa using hp))
      (fun hb => absurd hallowance hb)
  next hs =>
    exact keeps_seq (fun h => ⟨h.declared_iff_tripped, fun hn => absurd rfl hn, fun ha => absurd ha hs, h.pending_stopping,
      h.allowance_started⟩) Iff.rfl (fun h _ => h)

theorem keeps_takeReturn : Keeps s s.takeReturn := by
  unfold State.takeReturn
  split
  · exact .refl s
  · exact keeps_takeBack
  · exact .after keeps_answerRecall keeps_takeBack

theorem keeps_loadRecallTimer : Keeps s s.loadRecallTimer := by
  unfold State.loadRecallTimer
  split
  · exact .refl s
  · exact keeps_seq_same rfl rfl rfl

theorem keeps_recallGear : Keeps s s.recallGear := by
  unfold State.recallGear
  split
  · exact .refl s
  next hg =>
    refine .after keeps_loadRecallTimer (.after keeps_produceRecall (keeps_seq (fun h => ?_) Iff.rfl (fun h _ => h)))
    exact ⟨h.declared_iff_tripped, fun _ => h.grant_held (by simp [hg]), fun _ => by simp, h.pending_stopping,
      h.allowance_started⟩
  · exact keeps_produceRecall

theorem keeps_turnTimerExpires : Keeps s s.turnTimerExpires := by
  unfold State.turnTimerExpires
  split
  · have hexpired : Keeps s { s with seq := { s.seq with turnTimer := .expired } } := keeps_seq_same rfl rfl rfl
    dsimp only
    split
    · exact .after keeps_makeTurnDue hexpired
    · exact .after keeps_recallGear hexpired
    · exact hexpired
  · exact .refl s

theorem keeps_overdueTimerExpires : Keeps s s.overdueTimerExpires := by
  unfold State.overdueTimerExpires
  split
  · exact .after (keeps_raiseAttention _) (keeps_seq_same rfl rfl rfl)
  · exact .refl s

theorem keeps_recallTimerExpires : Keeps s s.recallTimerExpires := by
  unfold State.recallTimerExpires
  split
  · exact .after keeps_loadRecallTimer (.after (keeps_raiseAttention _) (keeps_seq_same rfl rfl rfl))
  · exact .refl s

theorem keeps_sendAux : Keeps s s.sendAux := by
  unfold State.sendAux
  split
  · exact .refl s
  · split
    next h =>
      exact .after (keeps_tookPlace _) (.after (keeps_joinQueue _ (State.queue_lt_of_mayTake (s := s) h))
        (keeps_seq_same rfl rfl rfl))
    next => exact .refl s

/-! ## The speed sample (R120 to R122) -/

theorem keeps_completeTurn (b : Bank) (hs : s.seq.drive = .turning) : Keeps s (s.completeTurn b) :=
  .after keeps_raiseMarkLoss (.after (keeps_intervalRestarted b) (.after (keeps_seq_same rfl rfl rfl)
    (keeps_enterStopping (.inr hs))))

/-- R120: the drive state is READY and no takeover is pending: what holds once a pending takeover has been taken up. -/
theorem keeps_setDrive_ready (hs : s.seq.drive = .stopping)
    (hrest : Keeps (s.setDrive .ready) t) (hdrive : t.seq.drive = .ready) (hgrant : t.seq.grant = s.seq.grant)
    (hpending : t.seq.pendingTakeover = false) (hdeclared : t.tru.declared = s.tru.declared)
    (hallowance : t.lim.breakaway = s.lim.breakaway) : Keeps s t where
  drive h := by
    obtain ⟨hd, hg⟩ := h.plain (by simp [hs]) (by simp [hs])
    exact .of_plain (by simp [hdrive]) (hdeclared.trans hd) (by simp [hdrive]) (hgrant.trans hg) (by simp [hpending])
      fun hb => absurd (h.allowance_started (hallowance ▸ hb)) (by simp [hs])
  bank h := hrest.bank ⟨fun hn => absurd (h.empty_blocked hn) (by simp [hs]), h.active_valid, h.pending_valid⟩
  capture h := hrest.capture ⟨h.1.trans (by simp [hs]), fun k hk => absurd (h.2 k hk).1 (by simp [hs])⟩
  stores h := hrest.stores ⟨h.buffer, h.pair, h.queue, h.shocks, h.later, h.history, h.notices⟩
  later h := hrest.later h
  accumulators h := hrest.accumulators h
  ceilings h := hrest.ceilings h
  queue := hrest.queue

theorem keeps_confirmStop (hs : s.seq.drive = .stopping) : Keeps s s.confirmStop := by
  have hrest : Keeps (s.setDrive .ready) (s.setDrive .ready).leaveRunning.vibrationOnReady :=
    keeps_leaveRunning.trans keeps_vibrationOnReady
  unfold State.confirmStop
  dsimp only
  split
  · refine .after (keeps_judgeTakeover (by simp)) (keeps_setDrive_ready hs (hrest.trans (keeps_seq (fun h => ?_) Iff.rfl ?_))
      (by simp) (by simp) rfl (by simp) (by simp))
    · exact ⟨h.declared_iff_tripped, h.grant_held, h.auxiliary_granted, by simp, h.allowance_started⟩
    · exact fun h _ => h
  next hp => exact keeps_setDrive_ready hs hrest (by simp) (by simp) (by simpa using hp) (by simp) (by simp)

theorem keeps_countStop (b : Bank) (v : Int) (hs : s.seq.drive = .stopping) : Keeps s (s.countStop b v) := by
  unfold State.countStop
  split
  · have hcount : Keeps s { s with seq := { s.seq with stopCount := bumpBy 10000 1 s.seq.stopCount } } :=
      keeps_seq_same rfl rfl rfl
    dsimp only
    split
    · exact .after (keeps_confirmStop hs) hcount
    · exact hcount
  · exact keeps_seq_same rfl rfl rfl

theorem keeps_addAngle (a : Nat) : Keeps s { s with seq := s.seq.addAngle a } := keeps_seq_same rfl rfl rfl

theorem keeps_sequenceSample (b : Bank) (v : Int) (a : Nat) : Keeps s (s.sequenceSample b v a) := by
  unfold State.sequenceSample
  dsimp only
  by_cases hs : s.seq.drive = .stopping
  · simp only [hs, reduceCtorEq, false_and, if_false, if_true]
    refine .after (keeps_countStop b v ?_) ?_
    · split <;> simpa [Sequencer.addAngle] using hs
    · exact .after (keeps_intervalRestarted_if b _) (keeps_addAngle a)
  · rw [if_neg hs]
    have hturn : Keeps s (if s.seq.drive = .turning ∧ b.dc.g1.turnAngle ≤ (s.seq.addAngle a).advance.natAbs then
        State.completeTurn b { s with seq := s.seq.addAngle a } else { s with seq := s.seq.addAngle a }) := by
      split
      next h => exact .after (keeps_completeTurn b h.1) (keeps_addAngle a)
      next => exact keeps_addAngle a
    exact .after (keeps_intervalRestarted_if b _) hturn

theorem keeps_deliverSpeed (b : Bank) (v : Int) (a : Nat) : Keeps s (s.deliverSpeed b v a) := by
  unfold State.deliverSpeed
  split
  · refine keeps_inAnyOrder fun act hact t => ?_
    simp only [sampleActions, List.mem_cons, List.not_mem_nil, or_false] at hact
    rcases hact with rfl | rfl | rfl | rfl
    · exact keeps_computeRow b v
    · exact keeps_achieveBreakaway b v
    · exact keeps_watchOverspeed b v
    · exact keeps_sequenceSample b v a
  · exact .after (keeps_sequenceSample b v a) (.after (keeps_watchOverspeed b v)
      (.after (keeps_achieveBreakaway b v) (keeps_computeRow b v)))

/-! ## Schedule Store (R27 to R42) -/

theorem keeps_requestLoadRows (a : Asker) (table first count : Word) (rows : List Word) :
    Keeps s (requestLoadRows a table first count rows s).1 := by
  unfold requestLoadRows
  split
  · exact .refl s
  · split
    · exact .refl s
    · split
      · exact .refl s
      next hfree =>
        split
        · exact .refl s
        next c hc =>
          have hkept : c.active = s.sched.active ∧ c.activation = s.sched.activation := by
            unfold Schedule.loaded at hc
            split at hc
            · cases hc
            · split at hc
              · obtain ⟨_, -, rfl⟩ := Option.map_eq_some_iff.1 hc
                exact ⟨rfl, rfl⟩
              · cases hc
          exact keeps_sched hkept.1 fun h => absurd (hkept.2 ▸ h) (by simpa using hfree)

theorem keeps_requestReadRows (bank table first count : Word) : Keeps s (requestReadRows bank table first count s).1 := by
  unfold requestReadRows
  repeat' split
  all_goals exact .refl s

theorem keeps_requestDiscard (a : Asker) : Keeps s (requestDiscard a s).1 := by
  unfold requestDiscard
  split
  · exact .refl s
  · split
    · exact .refl s
    · split
      · exact .refl s
      next hfree => exact keeps_sched rfl fun h => absurd h (by simpa [Schedule.discarded] using hfree)

/-- R28, R31: a bank of all-zero tables does not pass validation, so a bank that does is a staged one. -/
theorem Bank.zero_failure (own : Addr) : Bank.zero.failure own ≠ none := by
  simp [Bank.failure, DriveConstants.failure, Bank.zero, Group0.zero, Group0.inRange, Machine.inRange]

theorem staged_of_valid {c : Schedule} {own : Addr} (h : (c.staged.getD Bank.zero).failure own = none) :
    ∃ b, c.staged = some b ∧ b.failure own = none := by
  cases hb : c.staged with
  | none => exact absurd (by simpa [hb] using h) (Bank.zero_failure own)
  | some b => exact ⟨b, rfl, by simpa [hb] using h⟩

/-- R36, R92: a regulator at a swap has its accumulator within the new bound. -/
theorem Regulator.swapped_acc_le (r : Regulator) (b : Bank) : (r.swapped b).acc.natAbs ≤ 256 * b.dc.g0.vlim :=
  natAbs_clampInt_le _ (by simp)

/-- R35: a swap keeps the bank law where the staged bank is valid, and the other laws whatever it is. -/
theorem keeps_swap (hvalid : BankLaw s → ∀ b, s.sched.staged = some b → b.failure s.rp.strap = none) : Keeps s s.swap := by
  unfold State.swap
  split
  · exact .refl s
  next b hb =>
    refine .after (keeps_raiseAttention _)
      ⟨⟨fun h => ?_, fun h => ?_, fun h => ?_, fun h => ?_, fun h => ?_, fun h => ?_, fun h => ?_⟩, by simp⟩
    · exact ⟨h.declared_iff_tripped, h.grant_held, h.auxiliary_granted, h.pending_stopping, h.allowance_started⟩
    · refine ⟨by simp, fun c hc => ?_, fun _ => ⟨b, by simpa using hb, by simpa using hvalid h b hb⟩⟩
      obtain rfl : b = c := by simpa using hc
      simpa using hvalid h b hb
    · exact h
    · exact ⟨h.buffer, h.pair, h.queue, h.shocks, h.later, h.history, h.notices⟩
    · exact h
    · intro c hc
      obtain rfl : b = c := by simpa using hc
      exact ⟨natAbs_clampInt_le _ (by simp), rfl, Regulator.swapped_acc_le _ _, Regulator.swapped_acc_le _ _⟩
    · exact State.reformCeilings_law _

end Sys2Proof.Machine
end

section
/-! PROOF. Activation, the Intake, every request and every command keep every law. -/

namespace Sys2Proof.Machine

variable {s t u : State}

/-! ## Activation (R33, R34) -/

theorem keeps_pendingSwap : Keeps s s.pendingSwap := by
  unfold State.pendingSwap
  split
  · exact .refl s
  next m hm =>
    refine .after (keeps_answerActivation _) (keeps_swap fun h b hb => ?_)
    obtain ⟨c, hc, hvalid⟩ := h.pending_valid (by simp [hm])
    obtain rfl : b = c := by simpa [hb] using hc
    exact hvalid

theorem keeps_requestActivate (a : Asker) : Keeps s (requestActivate a s).1 := by
  unfold requestActivate
  iterate 5
    split
    · exact .refl s
  split
  · exact .refl s
  next hvalid =>
    obtain ⟨b, hb, hok⟩ := staged_of_valid hvalid
    unfold requestActivated
    split
    · exact keeps_swap fun _ c hc => by
        obtain rfl : b = c := by simpa [hb] using hc
        exact hok
    · exact keeps_sched rfl fun _ => .inr ⟨b, hb, hok⟩

theorem keeps_requestFreeze (a : Asker) : Keeps s (requestFreeze a s).1 := by
  unfold requestFreeze
  repeat' split
  · exact .refl s
  · exact .refl s
  · exact keeps_sched_same rfl rfl rfl

theorem keeps_requestPin (a : Asker) (row : Word) : Keeps s (requestPin a row s).1 := by
  unfold requestPin
  repeat' split
  · exact .refl s
  · exact .refl s
  · exact keeps_sched_same rfl rfl rfl
  · exact .refl s
  · exact .refl s

theorem keeps_requestRelease (a : Asker) : Keeps s (requestRelease a s).1 := by
  unfold requestRelease
  split
  · exact .refl s
  · exact keeps_endPin

/-! ## Intake (R12 to R19) -/

theorem keeps_takeConverterStatus (m : Motor) (n : Nat) : Keeps s (s.takeConverterStatus m n) := by
  unfold State.takeConverterStatus
  split
  · exact keeps_tru rfl id id
  · exact .after (keeps_raiseCause ..) (keeps_tru rfl id id)

theorem keeps_takeArm (m : Motor) (x : ArmLatch) : Keeps s (s.takeArm m x) :=
  .after (keeps_regulateIf ..) (.after (keeps_takeConverterStatus ..) (keeps_intake _))

theorem keeps_takeSpeed (b : Bank) (x : SpeedLatch) : Keeps s (s.takeSpeed b x) := by
  unfold State.takeSpeed
  dsimp only
  split
  · exact keeps_intake _
  · exact .after (keeps_deliverSpeed ..) (keeps_intake _)

theorem keeps_takeRef (x : RefLatch) : Keeps s (s.takeRef x) := by
  unfold State.takeRef
  dsimp only
  split
  · exact keeps_intake _
  · exact .after (keeps_regulateDue ..) (.after keeps_referenceEvent (keeps_intake _))

theorem keeps_discardSample (j : Judgement) : Keeps s (s.discardSample j) := by
  cases j with
  | take => exact .refl s
  | stale => exact keeps_intake _
  | late => exact keeps_intake _
  | duplicate => exact keeps_intake _

theorem keeps_takeOrDiscard (tag : Word) (taken : Bool) {act : State → State} (h : Keeps s (act s)) :
    Keeps s (s.takeOrDiscard tag taken act) := by
  unfold State.takeOrDiscard
  split
  · exact h
  · exact keeps_discardSample _

theorem keeps_readSample (b : Bank) (e : SlotEntry) (f : RawFrame) : Keeps s (s.readSample b e f) := by
  unfold State.readSample
  split
  · exact keeps_takeOrDiscard _ _ (keeps_takeArm ..)
  · exact keeps_takeOrDiscard _ _ (keeps_takeSpeed ..)
  · exact keeps_takeOrDiscard _ _ (keeps_takeRef _)
  · exact keeps_vibrationBlock ..
  · exact .refl s

theorem keeps_raiseLosses : Keeps s s.raiseLosses := by
  have hsample : ∀ t, Keeps t t.raiseSampleLoss := fun _ => keeps_raiseCause ..
  have hreference : ∀ t, Keeps t t.raiseReferenceLoss := fun _ => keeps_raiseCause ..
  unfold State.raiseLosses
  split
  · exact .refl s
  · exact hsample s
  · exact hreference s
  · exact keeps_inEitherOrder hsample hreference

theorem keeps_oweReference : Keeps s s.oweReference := by
  unfold State.oweReference
  split
  · exact .refl s
  · exact .after (keeps_regulateDue ..) keeps_referenceEvent

theorem keeps_deadlineExpires : Keeps s s.deadlineExpires := by
  unfold State.deadlineExpires
  split
  · refine .after (keeps_intake _) ?_
    split
    · exact .refl s
    · exact .after (keeps_regulateDue ..) (.after keeps_oweReference (.after keeps_raiseLosses (keeps_intake _)))
  · exact .refl s

theorem keeps_raiseMarkTimeout : Keeps s s.raiseMarkTimeout := by
  unfold State.raiseMarkTimeout
  split
  · exact keeps_raiseCause ..
  · exact keeps_raiseCause ..
  · exact keeps_raiseCause ..
  · exact keeps_raiseCause ..
  · exact keeps_raiseAttention _

theorem keeps_markTimerExpires : Keeps s s.markTimerExpires := by
  unfold State.markTimerExpires
  split
  · exact .after keeps_raiseMarkTimeout (.after (keeps_intake _) keeps_deadlineExpires)
  · exact .refl s

theorem keeps_closeCycle : Keeps s s.closeCycle := by
  unfold State.closeCycle
  split
  · exact keeps_pendingSwap
  · exact .after keeps_pendingSwap (.after keeps_writeSnapshot keeps_deadlineExpires)

theorem keeps_openCycle (tag : Word) : Keeps s (s.openCycle tag) :=
  .after (keeps_intake _) (keeps_lim (l := { s.lim with breakawayAtRef := false }) id id)

theorem keeps_tripMark : Keeps s s.tripMark := keeps_tru rfl id id

theorem keeps_markActions : Keeps s s.markActions := by
  unfold State.markActions
  split
  · refine keeps_inAnyOrder fun act hact t => ?_
    simp only [List.mem_cons, List.not_mem_nil, or_false] at hact
    rcases hact with rfl | rfl | rfl
    · exact keeps_tripMark
    · exact keeps_limiterMark
    · exact keeps_markDriveFrames
  · exact .after keeps_markDriveFrames (.after keeps_limiterMark keeps_tripMark)

theorem keeps_acceptMark (tag : Word) : Keeps s (s.acceptMark tag) :=
  .after keeps_markActions (.after (keeps_openCycle tag) (.after keeps_closeCycle (keeps_intake _)))

/-! ## Trip Unit and Recorder requests -/

theorem keeps_requestTrip (detail : Word) : Keeps s (requestTrip detail s).1 :=
  keeps_raiseCause .external .nobody detail.toNat

/-- R148, R149: an acknowledgement takes effect only where no slot captures the trip. -/
theorem keeps_acknowledged (hs : s.seq.drive = .tripped) (hcapturing : s.recorder.tripCapturing = false) :
    Keeps s (({ s with tru := s.tru.acknowledged, recorder := { s.recorder with currentSlot := none } } : State).setDrive
      (if s.seq.grant = .none then .blocked else .auxiliary)) where
  drive h := by
    obtain ⟨hpending, hallowance⟩ := h.idle (by simp [hs, DriveState.isRunning])
    constructor <;> (by_cases hg : s.seq.grant = .none) <;> simp [hg, TripUnit.acknowledged, TripUnit.initial, hpending, hallowance]
  bank h := ⟨fun hn => absurd (h.empty_blocked hn) (by simp [hs]), h.active_valid, h.pending_valid⟩
  capture h := by
    refine ⟨by by_cases hg : s.seq.grant = .none <;> simp [hg, TripUnit.acknowledged, TripUnit.initial], fun k hk => ?_⟩
    simp [Recorder.tripCapturing, (h.2 k hk).2] at hcapturing
    exact absurd hk hcapturing
  stores h := ⟨h.buffer, h.pair, h.queue, h.shocks, Nat.zero_le _, h.history, h.notices⟩
  later _ := ⟨List.nodup_nil, nofun⟩
  accumulators := id
  ceilings := id
  queue := rfl

theorem keeps_requestAcknowledge (a : Asker) : Keeps s (requestAcknowledge a s).1 := by
  unfold requestAcknowledge
  split
  · exact .refl s
  · split
    · exact .refl s
    next hs =>
      split
      · exact .refl s
      next hcapturing =>
        split
        · exact .refl s
        · exact keeps_acknowledged (by simpa using hs) (by simpa using hcapturing)

theorem keeps_requestAnnotate (code : Word) : Keeps s (requestAnnotate code s).1 := by
  unfold requestAnnotate
  split
  · exact .refl s
  · exact keeps_recorder_same id rfl rfl

theorem keeps_requestReadHeader (slot : Word) : Keeps s (requestReadHeader slot s).1 := by
  unfold requestReadHeader
  split
  · exact .refl s
  · dsimp only
    split <;> exact .refl s

theorem keeps_writeLock (locked : Bool) (slot : Word) : Keeps s (writeLock locked slot s).1 := by
  unfold writeLock
  split
  · exact .refl s
  · dsimp only
    split
    · exact .refl s
    · exact keeps_setSlot _ id

theorem keeps_requestUnlock (a : Asker) (slot : Word) : Keeps s (requestUnlock a slot s).1 := by
  unfold requestUnlock
  split
  · exact .refl s
  · exact keeps_writeLock ..

theorem map8_getElem {α β : Type} (f : α → β) (v : Vector α 8) (k : Fin 8) : (map8 f v)[k] = f v[k] := by
  match k with
  | 0 | 1 | 2 | 3 | 4 | 5 | 6 | 7 => rfl

theorem keeps_requestErase (a : Asker) : Keeps s (requestErase a s).1 := by
  unfold requestErase
  split
  · exact .refl s
  · refine keeps_recorder id fun k hk => ?_
    dsimp only at hk ⊢
    rw [map8_getElem] at hk
    split at hk
    · cases hk
    next h =>
      refine ⟨hk, fun hcurrent => ?_⟩
      simp only [hcurrent]
      rw [if_neg h]

/-- A slot pinned or unpinned as the readout changes. -/
theorem keeps_setSlot_readout (k : Fin 8) {x : RecordSlot} (hx : x.state = s.recorder.slots[k].state) (o : Readout) :
    Keeps s { s with recorder := { s.recorder.setSlot k x with readout := o } } :=
  .after (keeps_recorder_same (s := { s with recorder := s.recorder.setSlot k x }) id rfl rfl)
    (keeps_setSlot k fun h => hx ▸ h)

theorem keeps_requestReadRecord (a : Asker) (slot first count : Word) :
    Keeps s (requestReadRecord a slot first count s).1 := by
  unfold requestReadRecord
  split
  · exact .refl s
  next k _ =>
    dsimp only
    iterate 5
      split
      · exact .refl s
    exact keeps_setSlot_readout (x := { s.recorder.slots[k] with pinned := true }) k rfl _

theorem keeps_requestAbort (a : Asker) : Keeps s (requestAbort a s).1 := by
  unfold requestAbort
  split
  · exact .refl s
  all_goals
    split
    · exact keeps_recorder_same id rfl rfl
    · exact .refl s

theorem keeps_sendSegment : Keeps s s.sendSegment := by
  unfold State.sendSegment
  split
  · split
    next h =>
      exact .after (keeps_tookPlace _) (.after (keeps_joinQueue _ (State.queue_lt_of_mayTake (s := s) h))
        (keeps_recorder_same id rfl rfl))
    next => exact .refl s
  · exact .refl s

theorem keeps_endReadout (r : ReadoutData) : Keeps s (s.endReadout r) :=
  .after (keeps_rqh (s.endReadout r).rqh)
    (keeps_setSlot_readout (x := { s.recorder.slots[r.slot] with pinned := false }) r.slot rfl .idle)

theorem keeps_sendRecordEnd : Keeps s s.sendRecordEnd := by
  unfold State.sendRecordEnd
  split
  · split
    next h =>
      exact .after (keeps_tookPlace _) (.after (keeps_joinQueue _ (State.queue_lt_of_mayTake (s := s) h)) (keeps_endReadout _))
    next => exact .refl s
  · exact .refl s

theorem keeps_sendNotices : Keeps s s.sendNotices := by
  unfold State.sendNotices
  split
  next h =>
    refine .after (keeps_tookPlace _) (.after (keeps_joinQueue _ (State.queue_lt_of_mayTake (s := s) h)) (keeps_rpt fun hn => ?_))
    simp only [List.length_drop]
    omega
  next => exact .refl s

theorem keeps_responseDrawn (r : Reply) : Keeps s (s.responseDrawn r) := by
  unfold State.responseDrawn
  split
  · exact .refl s
  · exact keeps_drawn

theorem State.responseDrawn_rp (r : Reply) (s : State) : (s.responseDrawn r).rp = s.rp := by
  unfold State.responseDrawn
  split <;> rfl

theorem keeps_sendReply (m : Manager) : Keeps s (s.sendReply m) := by
  unfold State.sendReply
  dsimp only
  split
  · exact .refl s
  · split
    next h =>
      refine .after (keeps_tookPlace _) (.after (keeps_joinQueue _ ?_) (.after (keeps_rqh _) (keeps_responseDrawn _)))
      rw [State.responseDrawn_rp]
      exact State.queue_lt_of_mayTake h
    next => exact .refl s

/-! ## Requests (R171 to R175) -/

theorem keeps_requestRestart (a : Asker) : Keeps s (requestRestart a s).1 := by
  unfold requestRestart
  repeat' split
  all_goals exact .refl s

theorem keeps_requestReadStatus (page : Word) : Keeps s (requestReadStatus page s).1 := by
  unfold requestReadStatus
  split <;> exact .refl s

/-- R171: whatever the owning rule of a request does keeps every law. -/
theorem keeps_ownerDecides {a : Asker} {kind : Nat} {args : List Word} {act : State → Answered}
    (h : ownerDecides a kind args = some act) : Keeps s (act s).1 := by
  cases ownerRule_of_decides h with
  | describe => exact .refl s
  | readStatus page => exact keeps_requestReadStatus _
  | poll => exact keeps_requestPoll
  | enable => exact keeps_requestEnable a
  | disable => exact keeps_requestDisable a
  | startRun => exact keeps_requestStartRun a
  | startTurning => exact keeps_requestStartTurning a
  | stop => exact keeps_requestStop a
  | trip detail => exact keeps_requestTrip _
  | acknowledge => exact keeps_requestAcknowledge a
  | setHot => exact keeps_requestSetHot
  | clearHot => exact keeps_requestClearHot
  | clearAlarms => exact keeps_requestClearAlarms
  | annotate code => exact keeps_requestAnnotate _
  | readHeader slot => exact keeps_requestReadHeader _
  | readRecord slot first count => exact keeps_requestReadRecord ..
  | abort => exact keeps_requestAbort a
  | lock slot => exact keeps_writeLock ..
  | unlock slot => exact keeps_requestUnlock ..
  | erase => exact keeps_requestErase a
  | readRows bank table first count => exact keeps_requestReadRows ..
  | loadRows table first count rows => exact keeps_requestLoadRows ..
  | activate => exact keeps_requestActivate a
  | discard => exact keeps_requestDiscard a
  | pin row => exact keeps_requestPin ..
  | release => exact keeps_requestRelease a
  | freeze => exact keeps_requestFreeze a
  | restart => exact keeps_requestRestart a

theorem keeps_respond (a : Asker) (kind tag : Word) (p : ReplyPurpose) (r : ResultCode × List Word) :
    Keeps s (s.respond a kind tag p r) := keeps_formReply ..

theorem keeps_refuseBusy (a : Asker) (kind tag : Word) : Keeps s (s.refuseBusy a kind tag) := by
  unfold State.refuseBusy
  split
  · exact keeps_respond ..
  · exact keeps_commandOverrun

theorem keeps_takeAbort (a : Asker) (kind tag : Word) : Keeps s (s.takeAbort a kind tag) := by
  unfold State.takeAbort
  dsimp only
  have habort : Keeps s (requestAbort a
      { s with rqh := s.rqh.set a.manager { s.rqh.get a.manager with abortAnswering := true } }).1 :=
    .after (keeps_requestAbort a) (keeps_rqh _)
  split
  next u r hu => exact .after (keeps_respond ..) (by simpa [hu] using habort)
  next u hu => simpa [hu] using habort

theorem keeps_takeRequest (a : Asker) (kind tag : Word) (args : List Word) : Keeps s (s.takeRequest a kind tag args) := by
  unfold State.takeRequest
  dsimp only
  have htaking := keeps_setHolder (s := s) a.manager ⟨.answering, a.addr, tag⟩
  split
  · exact .after (keeps_respond ..) htaking
  next act hact =>
    have hdone := htaking.trans (keeps_ownerDecides hact)
    split
    next u r hu => exact .after (keeps_respond ..) (by simpa [hu] using hdone)
    next u hu => exact .after (keeps_setHolder ..) (by simpa [hu] using hdone)

theorem keeps_managerCommand (a : Asker) (kind tag : Word) (args : List Word) :
    Keeps s (s.managerCommand a kind tag args) := by
  unfold State.managerCommand
  dsimp only
  split
  · exact keeps_commandOverrun
  · split
    · exact keeps_commandOverrun
    · split
      · split
        · exact keeps_refuseBusy ..
        · exact keeps_takeAbort ..
      · split
        · exact keeps_refuseBusy ..
        · exact keeps_takeRequest ..

theorem keeps_handleCommand (src : Addr) (payload : List Word) : Keeps s (s.handleCommand src payload) := by
  unfold State.handleCommand
  split
  · split
    · exact keeps_countUnexpected
    · exact keeps_managerCommand ..
  · exact keeps_countUnexpected

theorem keeps_commandArrives (src : Addr) (payload : List Word) : Keeps s (s.commandArrives src payload) := by
  unfold State.commandArrives
  split
  · exact keeps_countLengthError
  · split
    · exact .after (keeps_forward _) keeps_drawn
    · split
      · exact .refl s
      · exact keeps_handleCommand ..

/-! ## Received frames (R1 to R3) -/

theorem keeps_passAux (f : RawFrame) {act : State → State} (h : Keeps s (act s)) : Keeps s (s.passAux f act) := by
  unfold State.passAux
  split
  · exact h
  · exact keeps_countUnexpected

theorem keeps_consume (f : RawFrame) : Keeps s (s.consume f) := by
  unfold State.consume
  split
  · exact keeps_handleCommand ..
  · split
    · exact keeps_passAux f keeps_takeTakeover
    · split
      · exact keeps_passAux f keeps_takeReturn
      · exact keeps_countUnexpected

theorem keeps_readBroadcast (f : RawFrame) : Keeps s (s.readBroadcast f) := by
  unfold State.readBroadcast
  split
  · split
    · exact keeps_acceptMark _
    · exact .refl s
  · split
    · exact .refl s
    · exact keeps_readSample ..

theorem keeps_dispose (f : RawFrame) : Keeps s (s.dispose f) := by
  unfold State.dispose
  split
  · exact .refl s
  · split
    · exact keeps_consume f
    · split
      · exact .after (keeps_readBroadcast f) (keeps_forward f)
      · exact keeps_forward f

theorem keeps_receiveFrame (f : RawFrame) : Keeps s (s.receiveFrame f) := by
  rcases s.receiveFrame_cases f with ⟨-, e⟩ | ⟨-, -, e⟩ | ⟨-, -, e⟩ | ⟨-, -, e⟩ <;> rw [e]
  · exact keeps_countLengthError
  · exact keeps_countCheckError
  · exact keeps_forward f
  · exact keeps_dispose f

/-! ## Resets (R180, R181, R196) -/

theorem RecordSlot.survived_state (x : RecordSlot) : x.survived.state ≠ .capturing := by
  unfold RecordSlot.survived
  dsimp only
  split
  · simp
  · assumption

theorem Recorder.retained_slots (r : Recorder) (k : Fin 8) : r.retained.slots[k] = r.slots[k].survived :=
  map8_getElem ..

theorem Vibration.initial_channels (k : Fin 4) : Vibration.initial.channels[k] = Channel.initial := by
  simp [Vibration.initial]

/-- No channel is in ALARM after a reset, so the ceilings are not lowered. -/
theorem ceilingOf_initial (b : Bank) (m : Motor) : ceilingOf b Vibration.initial.channels m = 12288 := by
  unfold ceilingOf
  rw [if_neg]
  simp only [List.any_eq_true, Bool.and_eq_true, not_exists, not_and]
  intro k _ _
  rw [Vibration.initial_channels]
  decide

theorem keeps_restarted : Keeps s s.restarted where
  drive _ := .of_plain (by simp [State.restarted, Sequencer.restarted, Sequencer.initial]) rfl
    (by simp [State.restarted, Sequencer.restarted, Sequencer.initial]) rfl (nofun) (fun h => absurd rfl h)
  bank h := ⟨fun _ => rfl, h.active_valid, fun h => absurd rfl h⟩
  capture _ := by
    refine ⟨by simp [State.restarted, Sequencer.restarted, Sequencer.initial, State.initial, TripUnit.initial], fun k hk => ?_⟩
    exact absurd (s.recorder.retained_slots k ▸ hk) (RecordSlot.survived_state _)
  stores h := ⟨h.buffer, Nat.zero_le _, Nat.zero_le _, Nat.zero_le _, Nat.zero_le _, Nat.zero_le _, Nat.zero_le _⟩
  later _ := ⟨List.nodup_nil, nofun⟩
  accumulators _ := fun _ _ => ⟨Nat.zero_le _, rfl, Nat.zero_le _, Nat.zero_le _⟩
  ceilings _ := by
    simp only [CeilingLaw, State.restarted, State.initial, ceilingOf_initial]
    split <;> rfl
  queue := rfl

/-- The state of a reset, with a record store in which no slot is CAPTURING and the history is empty, has every law. -/
theorem State.initial_safe (straps : Addr) (l : List Instr) (n : Nat) {r : Recorder} (hhistory : r.history = [])
    (hslots : ∀ k : Fin 8, r.slots[k].state ≠ .capturing) :
    Safe { State.initial straps with pending := l, draws := n, recorder := r } where
  drive := .of_plain (by simp [State.initial, Sequencer.initial]) rfl (by simp [State.initial, Sequencer.initial]) rfl
    (nofun) (fun h => absurd rfl h)
  bank := ⟨fun _ => rfl, nofun, fun h => absurd rfl h⟩
  capture := ⟨by simp [State.initial, TripUnit.initial, Sequencer.initial], fun k hk => absurd hk (hslots k)⟩
  stores := ⟨Nat.zero_le _, Nat.zero_le _, Nat.zero_le _, Nat.zero_le _, Nat.zero_le _, by simp [hhistory], Nat.zero_le _⟩
  accumulators := nofun
  ceilings := rfl
  later := ⟨List.nodup_nil, nofun⟩

theorem State.hardwareReset_safe (straps : Addr) (s : State) : Safe (s.hardwareReset straps) :=
  State.initial_safe straps _ _ rfl fun k => s.recorder.retained_slots k ▸ RecordSlot.survived_state _

theorem Recorder.initial_slots (k : Fin 8) : Recorder.initial.slots[k] = RecordSlot.emptied := by
  simp [Recorder.initial]

theorem State.poweredOn_safe (straps : Addr) (good : Bool) (s : State) : Safe (s.poweredOn straps good) := by
  cases good with
  | true => exact s.hardwareReset_safe straps
  | false => exact State.initial_safe straps _ _ rfl fun k =>
      (Recorder.initial_slots k).symm ▸ (nofun : RecordSlot.emptied.state ≠ .capturing)

theorem Safe.kept (h : Safe t) (hqueue : t.pending = s.pending) : Keeps s t :=
  ⟨⟨fun _ => h.drive, fun _ => h.bank, fun _ => h.capture, fun _ => h.stores, fun _ => h.later, fun _ => h.accumulators,
    fun _ => h.ceilings⟩, hqueue⟩

theorem keeps_transmissionEnds : Keeps s s.transmissionEnds := by
  unfold State.transmissionEnds
  split
  · exact .refl s
  · exact .after keeps_arbitrate keeps_portIdle
  · exact .after keeps_arbitrate keeps_portIdle
  · split
    · exact .after keeps_arbitrate keeps_restarted
    · exact .after keeps_arbitrate (.after keeps_placeFellFree keeps_portIdle)

/-! ## Every step -/

theorem keeps_countTimers : Keeps s s.countTimers := by
  have hintake := keeps_intake (s := s) s.countTimers.intake
  have hseq := keeps_seq_same (s := { s with intake := s.countTimers.intake }) (q := s.countTimers.seq) rfl rfl rfl
  have hrpt := keeps_rpt (s := { s with intake := s.countTimers.intake, seq := s.countTimers.seq }) (r := s.countTimers.rpt) id
  exact hintake.trans (hseq.trans hrpt)

theorem keeps_expiry {e : Expiry} (he : e ∈ expiries) : Keeps s (e.ifDue s) := by
  unfold Expiry.ifDue
  split
  · simp only [expiries, List.mem_cons, List.not_mem_nil, or_false] at he
    rcases he with rfl | rfl | rfl | rfl | rfl | rfl
    · exact keeps_deadlineExpires
    · exact keeps_markTimerExpires
    · exact keeps_turnTimerExpires
    · exact keeps_overdueTimerExpires
    · exact keeps_recallTimerExpires
    · exact keeps_flushExpires
  · exact .refl s

theorem keeps_tick : Keeps s s.tick := by
  refine .after (keeps_inAnyOrder fun act hact t => ?_) keeps_countTimers
  obtain ⟨e, he, rfl⟩ := List.mem_map.1 hact
  exact keeps_expiry (List.mem_of_mem_filter he)

theorem keeps_otherCommand {c : Instr} (hc : c ∈ otherCommands) (h : exec c s = .next t) : Keeps s t := by
  simp only [otherCommands, List.mem_cons, List.not_mem_nil, or_false] at hc
  rcases hc with rfl | rfl | rfl | rfl | rfl | rfl | rfl | rfl | rfl | rfl | rfl | rfl | rfl | rfl <;> cases h
  · exact keeps_transmissionEnds
  · exact keeps_deadlineExpires
  · exact keeps_markTimerExpires
  · exact keeps_sendAux
  · exact keeps_turnTimerExpires
  · exact keeps_overdueTimerExpires
  · exact keeps_recallTimerExpires
  · exact keeps_sendNotices
  · exact keeps_flushExpires
  · exact keeps_sendReply _
  · exact keeps_sendReply _
  · exact keeps_sendSegment
  · exact keeps_sendRecordEnd
  · split
    · exact keeps_transmissionEnds
    · exact .refl s

theorem keeps_exec {c : Instr} (h : exec c s = .next t) : Keeps s t := by
  rcases command_cases c with ⟨f, hf⟩ | ⟨src, ws, hc⟩ | ⟨straps, good, rfl⟩ | ⟨straps, rfl⟩ | hc
  · cases (exec_frameCommand hf s).symm.trans h
    exact keeps_receiveFrame f
  · cases (exec_request hc s).symm.trans h
    exact keeps_commandArrives src ws
  · cases h
    exact (s.poweredOn_safe straps good).kept rfl
  · cases h
    exact (s.hardwareReset_safe straps).kept rfl
  · exact keeps_otherCommand hc h

theorem keepsLaws_step (h : step s = .next t) : KeepsLaws s t := by
  unfold step at h
  split at h
  · cases h
    exact keeps_tick.toKeepsLaws
  · exact (keepsLaws_pending _).trans (keeps_exec h).toKeepsLaws

/-- Settles O55: no operation leaves trip declared, grant, takeover or allowance in a drive state the law denies them. -/
theorem driveLawKept : Obligations.DriveLawKept := fun _ _ hs h => (keepsLaws_step h).drive hs

/-- Settles O56: only a validated staged bank is swapped in, and BLOCKED is left only with a bank. -/
theorem bankLawKept : Obligations.BankLawKept := fun _ _ hs h => (keepsLaws_step h).bank hs

/-- Settles O57: a capture begins only at a declaration, in the slot that becomes the current one. -/
theorem captureLawKept : Obligations.CaptureLawKept := fun _ _ hs h => (keepsLaws_step h).capture hs

/-- Settles O58: each store is written only where it has a place, and a later cause is listed only where it is unknown. -/
theorem storesKept : Obligations.StoresKept := fun _ _ h => ⟨(keepsLaws_step h).stores, (keepsLaws_step h).later⟩

/-- Settles O59: accumulators are written clamped, and ceilings formed again as a confirmation passes into or out of ALARM. -/
theorem boundsKept : Obligations.BoundsKept := fun _ _ h => ⟨(keepsLaws_step h).accumulators, (keepsLaws_step h).ceilings⟩

/-- Settles O60: a reset leaves initial blocks, with a record store in which no slot is CAPTURING. -/
theorem resetsAreSafe : Obligations.ResetsAreSafe := by
  refine ⟨(State.initial 5).hardwareReset_safe 5, fun s t straps good _ h => ?_⟩
  rcases h with h | h <;> cases h
  · exact s.poweredOn_safe straps good
  · exact s.hardwareReset_safe straps

/-- Settles O3: every command answers, and no operation of one writes the queue. -/
theorem commandsKeepQueue : Obligations.CommandsKeepQueue := by
  intro c s
  obtain ⟨t, h⟩ := exec_answers c s
  exact ⟨t, h, (keeps_exec h).queue⟩

/-- Settles O1: the queue's rest is the pending list of the state the command runs in. -/
theorem stepTakesFront : Obligations.StepTakesFront := fun _ _ _ => rfl

end Sys2Proof.Machine
end

section
/-! PROOF. The frame check (R191): the register as a shift of the register and the word together. -/

namespace Sys2Proof

/-! ## The register -/

/-- The register after a bit 0 has come (R191). -/
def crcShift (r : Word) : Word := crcBit r false

/-- A bit that differs from the one leaving adds the generator. -/
theorem crcBit_eq (r : Word) (b : Bool) : crcBit r b = if r.msb = b then r <<< 1 else (r <<< 1) ^^^ 0x1021#16 := by
  unfold crcBit
  cases r.msb <;> cases b <;> rfl

/-- A word's leading bits come into the register as the register and the word shifted together. -/
theorem crcShift_xor (r v : Word) : crcShift (r ^^^ v) = crcBit r v.msb ^^^ (v <<< 1) := by
  simp only [crcShift, crcBit_eq, BitVec.msb_xor, BitVec.shiftLeft_xor_distrib]
  cases r.msb <;> cases v.msb <;> simp <;> ac_rfl

/-- The low `n` bits of a word, through the register. -/
theorem crcBits_eq_shift (w : Word) (n : Nat) (hn : n ≤ 16) (r : Word) :
    crcBits w n r = crcShift^[n] (r ^^^ w <<< (16 - n)) := by
  induction n generalizing r with
  | zero => simp [crcBits]
  | succ n ih =>
    have hmsb : (w <<< (16 - (n + 1))).msb = w.getLsbD n := by
      have hi : 15 - (15 - n) = n := by omega
      have hlt : ¬ 15 < 15 - n := by omega
      simp [BitVec.msb_eq_getLsbD_last, hi, hlt, -BitVec.getLsbD_eq_getElem]
    have hshift : w <<< (16 - n) = w <<< (16 - (n + 1)) <<< 1 := by
      rw [← BitVec.shiftLeft_add]
      congr 1
      omega
    rw [crcBits, ih (by omega), Function.iterate_succ_apply, crcShift_xor, hmsb, hshift]

theorem crcWord_eq_shift (r w : Word) : crcWord r w = crcShift^[16] (r ^^^ w) := by
  have h := crcBits_eq_shift w 16 le_rfl r
  rwa [Nat.sub_self, BitVec.shiftLeft_zero] at h

/-- The generator has bit 0, so the bit that left is seen in the register's bit 0, and no register is lost. -/
theorem crcShift_injective : Function.Injective crcShift := by
  intro x y h
  simp only [crcShift, crcBit_eq] at h
  have hbits : ∀ i (hi : i + 1 < 16), x.msb = y.msb → x.getLsbD i = y.getLsbD i := by
    intro i hi hm
    have h' := congrArg (fun w => w.getLsbD (i + 1)) h
    rw [hm] at h'
    have hi' : i + 1 < 16 := hi
    split at h' <;> simpa [BitVec.getLsbD_shiftLeft, hi', -BitVec.getLsbD_eq_getElem] using h'
  have hmsb : x.msb = y.msb := by
    have h' := congrArg (fun w => w.getLsbD 0) h
    cases hx : x.msb <;> cases hy : y.msb <;> simp [hx, hy] at h' ⊢
  refine BitVec.eq_of_getLsbD_eq fun i hi => ?_
  by_cases hlast : i + 1 < 16
  · exact hbits i hlast hmsb
  · obtain rfl : i = 15 := by omega
    simpa [BitVec.msb_eq_getLsbD_last] using hmsb

theorem crcWord_left_injective (w : Word) : Function.Injective (crcWord · w) := by
  intro r r' h
  simp only [crcWord_eq_shift] at h
  exact (BitVec.xor_left_inj _).1 (crcShift_injective.iterate 16 h)

theorem crcWord_right_injective (r : Word) : Function.Injective (crcWord r) := by
  intro w w' h
  simp only [crcWord_eq_shift] at h
  exact (BitVec.xor_right_inj _).1 (crcShift_injective.iterate 16 h)

theorem foldl_crcWord_injective (ws : List Word) : Function.Injective fun r => ws.foldl crcWord r := by
  induction ws with
  | nil => exact fun _ _ h => h
  | cons w ws ih => exact fun _ _ h => crcWord_left_injective w (ih h)

/-! ## The four parts of the statement -/

theorem crc_eq_foldl_bits (ws : List Word) :
    crc ws = (ws.flatMap fun w => (List.range 16).map fun i => w.getLsbD (15 - i)).foldl crcBit (BitVec.allOnes 16) := by
  rw [List.foldl_flatMap]
  rfl

theorem crc_ne_of_word_ne (pre post : List Word) {w w' : Word} (h : w ≠ w') :
    crc (pre ++ w :: post) ≠ crc (pre ++ w' :: post) := by
  intro heq
  simp only [crc, List.foldl_append, List.foldl_cons] at heq
  exact h (crcWord_right_injective _ (foldl_crcWord_injective post heq))

theorem crc_append_crc (ws : List Word) : crc (ws ++ [crc ws]) = 0 := by
  have hlast : crc (ws ++ [crc ws]) = crcWord (crc ws) (crc ws) := by simp [crc]
  have hzero : crcShift 0#16 = 0#16 := by decide
  rw [hlast, crcWord_eq_shift, BitVec.xor_self]
  exact Function.iterate_fixed hzero 16

/-- R1: a frame the part builds passes the length and the frame check. -/
theorem cleanFrame_makeFrame (dest src : Addr) (kind : Nat) (tag : Word) {payload : List Word} (h : payload.length ≤ 64) :
    Machine.cleanFrame (makeFrame dest src kind tag payload) := by
  have hlength := makeFrame_lengthField dest src (kind := kind) tag (payload := payload) (by omega)
  have hpayload : (makeFrame dest src kind tag payload).payload = payload := rfl
  constructor
  · simp [RawFrame.lengthError, hlength, hpayload, h]
  · simp [RawFrame.checkError, RawFrame.body, makeFrame]

/-- Settles O10: the register is injective in itself and in the word that comes, and shifts to 0 from the word it equals. -/
theorem frameCheckCloses : Obligations.FrameCheckCloses := by
  refine ⟨fun ws => ?_, fun pre post w w' => crc_ne_of_word_ne pre post, crc_append_crc,
    fun dest src kind tag payload => cleanFrame_makeFrame dest src kind tag⟩
  rw [crc_eq_foldl_bits]
  congr 1
  funext r b
  rw [crcBit_eq, BitVec.msb_eq_getLsbD_last]
  rfl

end Sys2Proof
end

section
/-! PROOF. The time base (R17, R19, R125, R128, R132, R188). -/

namespace Sys2Proof.Machine

variable {s : State}

theorem State.tick_of_none_due (h : expiries.filter (fun e => e.due s.countTimers) = []) : s.tick = s.countTimers := by
  simp only [State.tick, h]
  rfl

theorem State.tick_of_one_due {e : Expiry} (h : expiries.filter (fun e => e.due s.countTimers) = [e]) :
    s.tick = e.act s.countTimers := by
  have hmem : e ∈ expiries.filter fun e => e.due s.countTimers := by simp [h]
  have hdue : e.due s.countTimers = true := (List.mem_filter.1 hmem).2
  simp only [State.tick, h, List.map_cons, List.map_nil, inAnyOrder, Expiry.ifDue, hdue, if_true]

/-- A list of which one place alone passes a test keeps that place's member. -/
theorem filter_eq_singleton {α : Type} {p : α → Bool} {l : List α} {i : Nat} {x : α} (hx : l[i]? = some x) (hp : p x = true)
    (hone : ∀ j y, l[j]? = some y → p y = true → j = i) : l.filter p = [x] := by
  induction l generalizing i with
  | nil => cases hx
  | cons y l ih =>
    cases i with
    | zero =>
      obtain rfl : y = x := by simpa using hx
      have hrest : l.filter p = [] := List.filter_eq_nil_iff.2 fun z hz hpz => by
        obtain ⟨j, hj⟩ := List.mem_iff_getElem?.1 hz
        exact absurd (hone (j + 1) z (by simpa using hj) hpz) (by omega)
      rw [List.filter_cons_of_pos hp, hrest]
    | succ i =>
      have hy : ¬ p y = true := fun hpy => absurd (hone 0 y rfl hpy) (by omega)
      rw [List.filter_cons_of_neg hy]
      exact ih (by simpa using hx) fun j z hj hpz => by simpa using hone (j + 1) z (by simpa using hj) hpz

/-- The timers of the statement, in the order of the model's expiries, with what is due of each and the command of its expiry. -/
def timersOf (t : State) : List (Prop × Instr) :=
  [(t.intake.deadline = .running 0, .deadlineExpiry), (t.intake.markTimer = .running 0, .markTimerExpiry),
   (t.seq.turnTimer = .counting 0, .turnTimerExpiry), (t.seq.overdue = .counting 0, .overdueTimerExpiry),
   (t.seq.recallTimer = .counting 0, .recallTimerExpiry), (t.rpt.flush = .running 0, .flushTimerExpiry)]

/-- Each timer is due where the model's expiry at its place is, and its command carries out that expiry. -/
theorem expiries_of_timersOf {t : State} {i : Nat} {e : Prop × Instr} (h : (timersOf t)[i]? = some e) :
    ∃ x, expiries[i]? = some x ∧ (x.due t = true ↔ e.1) ∧ exec e.2 t = .next (x.act t) := by
  have hi : i < 6 := (List.getElem?_eq_some_iff.1 h).1
  interval_cases i <;> cases h <;> exact ⟨_, rfl, beq_iff_eq, rfl⟩

theorem timersOf_of_expiries {t : State} {i : Nat} {x : Expiry} (h : expiries[i]? = some x) :
    ∃ e, (timersOf t)[i]? = some e ∧ (x.due t = true ↔ e.1) := by
  have hi : i < 6 := (List.getElem?_eq_some_iff.1 h).1
  interval_cases i <;> cases h <;> exact ⟨_, rfl, beq_iff_eq⟩

/-- Settles O2: a step on an empty queue is a tick, which carries out the one expiry that the counted timers make due. -/
theorem idleStepCountsTime : Obligations.IdleStepCountsTime := by
  intro s hs t timers
  have htick : step s = .next s.tick := by simp [step, hs]
  have hcount : s.countTimers = t := rfl
  have htimers : timers = timersOf t := rfl
  clear_value timers t
  subst hcount htimers
  rw [htick]
  refine ⟨fun hnone => congrArg _ (State.tick_of_none_due ?_), fun i e he hdue hone => ?_⟩
  · refine List.filter_eq_nil_iff.2 fun x hx hxdue => ?_
    obtain ⟨i, hi⟩ := List.mem_iff_getElem?.1 hx
    obtain ⟨e, he, hiff⟩ := timersOf_of_expiries hi
    exact hnone e (List.mem_of_getElem? he) (hiff.1 hxdue)
  · obtain ⟨x, hx, hiff, hexec⟩ := expiries_of_timersOf he
    rw [hexec, State.tick_of_one_due (filter_eq_singleton hx (hiff.2 hdue) fun j y hj hydue => ?_)]
    obtain ⟨e', he', hiff'⟩ := timersOf_of_expiries hj
    exact hone j e' he' (hiff'.1 hydue)

end Sys2Proof.Machine
end

section
/-! PROOF. The Ring Port (R1 to R8): disposal, forwarding-only stations, the arbiter, the priority pair. -/

namespace Sys2Proof.Machine

variable {s : State} {f : RawFrame}

/-! ## Received frames -/

theorem RawFrame.lengthError_iff : f.lengthError = true ↔ 64 < f.lengthField ∨ f.payload.length ≠ f.lengthField := by
  simp [RawFrame.lengthError]

theorem State.receiveFrame_clean (hf : cleanFrame f) (hs : s.forwardingOnly = false) : s.receiveFrame f = s.dispose f := by
  simp [State.receiveFrame, hf.1, hf.2, hs]

/-- R2: a frame at the part's own address. -/
theorem State.dispose_own (hsrc : f.source ≠ s.rp.strap) (hdest : f.dest = s.rp.strap) : s.dispose f = s.consume f := by
  simp [State.dispose, hsrc, hdest]

/-- R3: the address of a station is not the broadcast address. -/
theorem State.strap_ne_broadcast (hs : s.forwardingOnly = false) : s.rp.strap ≠ 63 := by
  simp [State.forwardingOnly] at hs
  exact hs.2

theorem State.dispose_broadcast (hs : s.forwardingOnly = false) (hsrc : f.source ≠ s.rp.strap) (hdest : f.dest = 63) :
    s.dispose f = (s.forward f).readBroadcast f := by
  have hown : ¬ f.dest = s.rp.strap := fun e => s.strap_ne_broadcast hs (e ▸ hdest)
  rw [State.dispose, if_neg hsrc, if_neg hown, if_pos hdest]

theorem State.classify_congr {t : State} (h : t.sched.active = s.sched.active) : t.classify f = s.classify f := by
  simp only [State.classify, h]

/-- Settles O4: a received frame passes the tests of R1 and R2 one by one, and what no block reads is only forwarded. -/
theorem framesAreDisposed : Obligations.FramesAreDisposed := by
  intro s f c hc
  rw [exec_frameCommand hc]
  refine ⟨fun hlength => ?length, fun hle hlength hcheck => ?check, fun hclean hs => ?disposed⟩
  case length => rw [State.receiveFrame, if_pos (RawFrame.lengthError_iff.2 hlength)]; rfl
  case check =>
    have hl : ¬ f.lengthError = true := by rw [RawFrame.lengthError_iff]; omega
    rw [State.receiveFrame, if_neg hl, if_pos (by simp [RawFrame.checkError, hcheck])]
    rfl
  case disposed =>
    rw [State.receiveFrame_clean hclean hs]
    refine ⟨fun hsrc => ?_, fun hsrc hdest hcommand htakeover hreturn => ?_, fun hsrc hdest hkind haux => ?_,
      fun hsrc hdest hkind hzero => ?_, fun hsrc hdest hkind hnone => ?_, fun hsrc hdest hbroadcast => ?_⟩
    · rw [State.dispose, if_pos hsrc]
    · rw [State.dispose_own hsrc hdest, State.consume, if_neg hcommand, if_neg htakeover, if_neg hreturn]
      rfl
    · rw [State.dispose_own hsrc hdest]
      rcases hkind with hkind | hkind <;>
        simp [State.consume, State.passAux, hkind, haux, kindCommand, kindTakeover, kindReturn] <;> rfl
    · rw [State.dispose_broadcast hs hsrc hdest, State.readBroadcast, if_pos hkind, if_neg hzero]
    · rw [State.dispose_broadcast hs hsrc hdest, State.readBroadcast, if_neg hkind,
        State.classify_congr (congrArg _ (s.forward_sched f)), hnone]
    · rw [State.dispose, if_neg hsrc, if_neg hdest, if_neg hbroadcast]

/-- Settles O11: the frame is clean, at the part's own address and of kind command, and its payload is the request's words. -/
theorem commandFrameIsRequest : Obligations.CommandFrameIsRequest := by
  intro c src ws hc hlength s tag hs
  have hclean := cleanFrame_makeFrame s.rp.strap src kindCommand tag hlength
  have hkind : (makeFrame s.rp.strap src kindCommand tag ws).kindCode = kindCommand :=
    makeFrame_kindCode _ _ _ (by decide)
  have hpayload : (makeFrame s.rp.strap src kindCommand tag ws).payload = ws := rfl
  rw [exec_request hc]
  change Host.Outcome.next (s.receiveFrame _) = _
  rw [State.receiveFrame_clean hclean hs, State.commandArrives, if_neg (by omega), if_neg (by simp [hs]), State.dispose,
    makeFrame_source, makeFrame_dest]
  split
  · rfl
  · rw [if_pos rfl, State.consume, if_pos hkind, makeFrame_source, hpayload]

/-! ## Forwarding-only stations (R3) -/

theorem State.mayTake_forwardingOnly (hs : s.forwardingOnly = true) (p : Producer) : s.mayTake p = false := by
  simp [State.mayTake, State.placeFree, hs]

/-- Settles O5: the test of R3 comes before a frame is read, a request taken or a place given. -/
theorem forwardingOnlyForwards : Obligations.ForwardingOnlyForwards := by
  intro s hs
  refine ⟨fun f c hc hclean => ?_, fun c src ws hc hlength => ⟨BitVec.ofNat 16 (Config.choice s.draws), ?_⟩,
    fun c hc => ?_, fun f => by simp [State.joinPair, hs]⟩
  · rw [exec_frameCommand hc, State.receiveFrame]
    simp [hclean.1, hclean.2, hs]
  · rw [exec_request hc, State.commandArrives, if_neg (by omega), if_pos hs]
  · have htake := State.mayTake_forwardingOnly hs
    have hnotice : s.sendNotices = s := by simp [State.sendNotices, htake]
    have haux : s.sendAux = s := by
      unfold State.sendAux
      split
      · rfl
      · simp [htake]
    have hsegment : s.sendSegment = s := by
      unfold State.sendSegment
      split
      · simp [htake]
      · rfl
    have hend : s.sendRecordEnd = s := by
      unfold State.sendRecordEnd
      split
      · simp [htake]
      · rfl
    have hreply : ∀ m, s.sendReply m = s := by
      intro m
      simp only [State.sendReply]
      split
      · rfl
      · simp [htake]
    simp only [List.mem_cons, List.not_mem_nil, or_false] at hc
    rcases hc with rfl | rfl | rfl | rfl | rfl | rfl
    · exact congrArg _ hnotice
    · exact congrArg _ haux
    · exact congrArg _ hsegment
    · exact congrArg _ hend
    · exact congrArg _ (hreply _)
    · exact congrArg _ (hreply _)

/-! ## The arbiter (R5) -/

/-- R5: what the arbiter makes of the stores of a Ring Port whose port is free. -/
theorem State.arbitrate_rp_idle (h : s.rp.port = .idle) :
    s.arbitrate.rp = match s.rp.buffer, s.rp.pair, s.rp.queue with
      | f :: rest, _, _ => { s.rp with port := .forwarding f, buffer := rest }
      | [], f :: rest, _ => { s.rp with port := .priority f, pair := rest }
      | [], [], f :: _ => { s.rp with port := .general f }
      | [], [], [] => { s.rp with port := .idle } := by
  rcases s with ⟨pending, draws, ⟨strap, buffer, pair, queue, port⟩⟩
  cases (show port = .idle from h)
  cases buffer with
  | cons f rest => rfl
  | nil =>
    cases pair with
    | cons f rest => rfl
    | nil => cases queue <;> rfl

theorem State.arbitrate_busy (h : s.rp.port ≠ .idle) : s.arbitrate = s := by
  unfold State.arbitrate
  split
  · contradiction
  · rfl

theorem State.arbitrate_waiters (s : State) : s.arbitrate.rp.waiters = s.rp.waiters := by
  unfold State.arbitrate
  repeat' split
  all_goals rfl

/-- R5, R7: a transmission ends with the port idle, the place of a general frame fallen free, and the arbiter's choice. -/
theorem State.transmissionEnds_cases (hbusy : s.rp.port ≠ .idle) (hrestart : s.sendingRestart = false) :
    ((∀ f, s.rp.port ≠ .general f) ∧ s.transmissionEnds = s.portIdle.arbitrate) ∨
      ((∃ f, s.rp.port = .general f) ∧ s.transmissionEnds = s.portIdle.placeFellFree.arbitrate) := by
  unfold State.transmissionEnds
  split
  next h => exact absurd h hbusy
  next h => exact .inl ⟨by simp [h], rfl⟩
  next h => exact .inl ⟨by simp [h], rfl⟩
  next f h =>
    have hf : isRestartResponse f = false := by simpa [State.sendingRestart, h] using hrestart
    exact .inr ⟨⟨f, h⟩, if_neg (by simp [hf])⟩

/-- Settles O7: the port is idle as the frame has left, a general frame's place falls free, and the arbiter chooses. -/
theorem arbiterChooses : Obligations.ArbiterChooses := by
  intro s hbusy hrestart
  refine ⟨s.transmissionEnds, rfl, ?_, ?_⟩
  · rcases State.transmissionEnds_cases hbusy hrestart with ⟨-, e⟩ | ⟨-, e⟩ <;> rw [e, State.arbitrate_eq] <;> rfl
  · rcases State.transmissionEnds_cases hbusy hrestart with ⟨hport, e⟩ | ⟨⟨g, hport⟩, e⟩
    · rw [e, State.arbitrate_waiters, State.arbitrate_rp_idle rfl]
      cases hp : s.rp.port with
      | general q => exact absurd hp (hport q)
      | _ => rfl
    · simp only [hport]
      rw [e, State.arbitrate_waiters, State.arbitrate_rp_idle rfl]
      rfl

/-! ## The priority pair (R6) -/

theorem sameKindAndDest_iff {f g : RawFrame} : sameKindAndDest f g = true ↔ g.kindCode = f.kindCode ∧ g.dest = f.dest := by
  rw [sameKindAndDest, Bool.and_eq_true, beq_iff_eq, beq_iff_eq, eq_comm, @eq_comm _ f.dest]

/-- R6: a frame joining the pair at a station whose port is busy. -/
theorem State.joinPair_busy (hs : s.forwardingOnly = false) (h : s.rp.port ≠ .idle) :
    s.joinPair f = { s with rp := { s.rp with
      pair := (joinedPair f s.rp.pair).1
      priorityOverrun := if (joinedPair f s.rp.pair).2 then bump s.rp.priorityOverrun else s.rp.priorityOverrun } } := by
  rw [State.joinPair, if_neg (by simp [hs])]
  exact State.arbitrate_busy h

/-- Settles O8: an idle port starts the frame, and a busy one leaves it in the pair by the three cases of R6. -/
theorem priorityPairJoins : Obligations.PriorityPairJoins := by
  intro s f hs
  refine ⟨fun hport hbuffer hpair => ?_, fun hport => ⟨fun l g r hpair hg hothers => ?_, fun hnone hlen => ?_,
    fun g h hpair hg hh => ?_⟩⟩
  · rw [State.joinPair, if_neg (by simp [hs]), hpair]
    have hjoined : joinedPair f [] = ([f], false) := by simp [joinedPair]
    rw [hjoined]
    rcases s with ⟨pending, draws, ⟨strap, buffer, pair, queue, port⟩⟩
    cases (show port = .idle from hport)
    cases (show buffer = [] from hbuffer)
    cases (show pair = [] from hpair)
    rfl
  · have hfirst : ∀ x ∈ l ++ r, sameKindAndDest f x = false := fun x hx => by
      rw [Bool.eq_false_iff, Ne, sameKindAndDest_iff]
      exact hothers x hx
    have hsame : sameKindAndDest f g = true := sameKindAndDest_iff.2 hg
    have hkeep : ∀ m : List RawFrame, (∀ x ∈ m, sameKindAndDest f x = false) →
        m.map (fun x => if sameKindAndDest f x then f else x) = m := fun m hm =>
      (List.map_congr_left fun x hx => by simp [hm x hx]).trans (List.map_id m)
    rw [State.joinPair_busy hs hport]
    simp only [joinedPair, hpair, List.any_append, List.any_cons, hsame, Bool.true_or, Bool.or_true, if_true, List.map_append,
      List.map_cons, hkeep l fun x hx => hfirst x (List.mem_append_left r hx),
      hkeep r fun x hx => hfirst x (List.mem_append_right l hx)]
    rfl
  · rw [State.joinPair_busy hs hport]
    have hany : s.rp.pair.any (sameKindAndDest f) = false := by
      simpa only [List.any_eq_false, sameKindAndDest_iff] using hnone
    simp [joinedPair, hany, Nat.not_le.2 hlen]
  · rw [State.joinPair_busy hs hport]
    rw [hpair]
    have hany : [g, h].any (sameKindAndDest f) = false := by
      rw [List.any_eq_false]
      simp only [sameKindAndDest_iff, List.mem_cons, List.not_mem_nil, or_false]
      rintro x (rfl | rfl)
      · exact hg
      · exact hh
    simp only [joinedPair, hany]
    rfl

end Sys2Proof.Machine
end

section
/-! PROOF. Requests answered at once (R173), and the Schedule Store's: rows, freeze and row pin (R23 to R29, R38, R41, R42). -/

namespace Sys2Proof.Machine

variable {s : State} {a : Asker}

/-! ## A request taken, by its owning rule's answer -/

section
variable {c : Instr} {kind tag : Word} {args ws : List Word} {act : State → Answered} {code : ResultCode}

/-- R173: a request that a manager may send now is answered as its owning rule decides. -/
theorem exec_request_answered (hc : requestOf c = some (a.addr, kind :: tag :: args))
    (hd : ownerDecides a kind.toNat args = some act) (hn : args.length ≤ 62) (h : s.takesFrom a) (v : State)
    (ha : act (s.taking a tag) = (v.taking a tag, some (code, ws))) (hq : v.rqh = s.rqh) :
    exec c s = .next (v.answered a kind tag code ws) := by
  rw [exec_request hc, s.commandArrives_answers h hn hd ha v rfl hq]

/-- R173, R193: a request refused by its owning rule changes nothing but the answer. -/
theorem exec_request_refused (hc : requestOf c = some (a.addr, kind :: tag :: args))
    (hd : ownerDecides a kind.toNat args = some act) (hn : args.length ≤ 62) (h : s.takesFrom a)
    (ha : act (s.taking a tag) = (s.taking a tag, some (code, ws))) : exec c s = .next (s.answered a kind tag code ws) :=
  exec_request_answered hc hd hn h s ha rfl

end

theorem Asker.not_operate (hl : a.level = .commission) : ¬ a.level = .operate := by simp [hl]

/-! ## Reading rows (R29) -/

theorem Table.ofCode_eq_none_iff (n : Nat) : Table.ofCode n = none ↔ 3 < n := by
  match n with
  | 0 | 1 | 2 | 3 => decide
  | n + 4 => exact iff_of_true rfl (by omega)

theorem Table.rowsFit_iff {t : Table} {first count : Nat} :
    t.rowsFit first count = true ↔ 1 ≤ count ∧ count ≤ t.maxCount ∧ first + count ≤ t.rows := by
  simp [Table.rowsFit, and_assoc]

theorem Table.rowsFit_eq_false_iff {t : Table} {first count : Nat} :
    t.rowsFit first count = false ↔ count = 0 ∨ t.maxCount < count ∨ t.rows < first + count := by
  rw [← Bool.not_eq_true, Table.rowsFit_iff]
  omega

theorem Schedule.bankNamed_eq (c : Schedule) {n : Nat} (hn : n ≤ 1) :
    c.bankNamed n = some (if n = 0 then c.active else c.staged) := by
  interval_cases n <;> rfl

theorem Schedule.bankNamed_eq_none (c : Schedule) {n : Nat} (hn : 1 < n) : c.bankNamed n = none := by
  match n, hn with
  | n + 2, _ => rfl

section
variable {bank table first count : Word}

/-- R29: a bank or a table that is not there. -/
theorem requestReadRows_of_code (h : 1 < bank.toNat ∨ 3 < table.toNat) :
    requestReadRows bank table first count s = refuse .badArgument s := by
  unfold requestReadRows
  split
  next named t hbank htable =>
    rcases h with h | h
    · simp [s.sched.bankNamed_eq_none h] at hbank
    · simp [(Table.ofCode_eq_none_iff _).2 h] at htable
  next => rfl

/-- R29: the rows of a bank that is there, where they fit. -/
theorem requestReadRows_of_table {t : Table} (hbank : bank.toNat ≤ 1) (ht : Table.ofCode table.toNat = some t) :
    requestReadRows bank table first count s =
      if t.rowsFit first.toNat count.toNat then
        match if bank.toNat = 0 then s.sched.active else s.sched.staged with
        | none => refuse .refusedState s
        | some b => answerDone ([bank, table, first, count] ++ b.rowsWords t first.toNat count.toNat) s
      else refuse .badArgument s := by
  simp only [requestReadRows, s.sched.bankNamed_eq hbank, ht] <;> rfl

end

/-- Settles O27: the codes, the rows and the bank are judged in that order, and the answer changes nothing. -/
theorem readRowsTaken : Obligations.ReadRowsTaken := by
  intro s a tag bank table first count htake answers
  have hrefused : ∀ {code ws}, requestReadRows bank table first count (s.taking a tag) = (s.taking a tag, some (code, ws)) →
      answers code ws := exec_request_refused (act := requestReadRows bank table first count) rfl rfl (by simp) htake
  refine ⟨fun h => hrefused (requestReadRows_of_code h), fun t hbank ht => ?_⟩
  have heq := requestReadRows_of_table (s := s.taking a tag) (first := first) (count := count) hbank ht
  refine ⟨fun hfit => hrefused ?_, fun h1 hmax hrows => ⟨fun hnone => hrefused ?_, fun b hb => hrefused ?_⟩⟩
  · rw [heq, Table.rowsFit_eq_false_iff.2 hfit]
    rfl
  · rw [heq, if_pos (Table.rowsFit_iff.2 ⟨h1, hmax, hrows⟩)]
    have hnamed : (if bank.toNat = 0 then (s.taking a tag).sched.active else (s.taking a tag).sched.staged) = none := hnone
    rw [hnamed]
    rfl
  · rw [heq, if_pos (Table.rowsFit_iff.2 ⟨h1, hmax, hrows⟩)]
    have hnamed : (if bank.toNat = 0 then (s.taking a tag).sched.active else (s.taking a tag).sched.staged) = some b := hb
    rw [hnamed]
    rfl

/-! ## Loading rows (R23 to R28) -/

/-- R27: rows are loaded one after the other, each of its size. -/
theorem Bank.loadRows_succ {b : Bank} {t : Table} {first n : Nat} {ws : List Word} :
    b.loadRows t first (n + 1) ws =
      (b.loadRow t first (ws.take (t.rowSize first))).bind fun b' =>
        b'.loadRows t (first + 1) n (ws.drop (t.rowSize first)) := by
  rw [Bank.loadRows]
  cases b.loadRow t first (ws.take (t.rowSize first)) <;> rfl

theorem Bank.loadRows_zero {b : Bank} {t : Table} {first : Nat} {ws : List Word} :
    b.loadRows t first 0 ws = if ws = [] then some b else none := by
  rw [Bank.loadRows]
  cases ws <;> rfl

/-- A row in range has its row's size. -/
theorem rowInRange_length {t : Table} {r : Nat} {row : List Word} (hr : r < t.rows) (h : rowInRange t r row) :
    row.length = t.rowSize r := by
  cases t with
  | speedSchedule =>
    simp only [rowInRange] at h
    split at h
    · rfl
    · exact h.elim
  | vibThresholds => exact h
  | slotMap =>
    simp only [rowInRange] at h
    split at h
    · rfl
    · exact h.elim
  | driveConstants =>
    simp only [Table.rows] at hr
    interval_cases r <;>
    · simp only [rowInRange] at h
      split at h
      · rfl
      · exact h.elim

/-- R27, R194: the words are taken exactly where they split into rows in range. -/
theorem Bank.loadRows_ne_none {t : Table} {n : Nat} : ∀ {b : Bank} {r : Nat} {ws : List Word}, r + n ≤ t.rows →
    (b.loadRows t r n ws ≠ none ↔ ∃ l : List (List Word), l.length = n ∧ l.flatten = ws ∧
      ∀ (i : Nat) (row : List Word), l[i]? = some row → rowInRange t (r + i) row) := by
  induction n with
  | zero =>
    intro b r ws _
    rw [Bank.loadRows_zero]
    constructor
    · intro h
      have hws : ws = [] := by
        by_contra hne
        exact h (if_neg hne)
      exact ⟨[], rfl, hws.symm, nofun⟩
    · rintro ⟨l, hlen, hflat, -⟩
      obtain rfl := List.length_eq_zero_iff.1 hlen
      obtain rfl : ws = [] := hflat.symm
      exact nofun
  | succ n ih =>
    intro b r ws hfit
    have hr : r < t.rows := by omega
    rw [Bank.loadRows_succ]
    constructor
    · intro h
      obtain ⟨b', hb'⟩ : ∃ b', b.loadRow t r (ws.take (t.rowSize r)) = some b' := by
        rw [← Option.ne_none_iff_exists']
        intro e
        rw [e] at h
        exact h rfl
      rw [hb', Option.bind_some] at h
      obtain ⟨l, hlen, hflat, hrows⟩ := (ih (by omega)).1 h
      refine ⟨ws.take (t.rowSize r) :: l, by rw [List.length_cons, hlen], ?_, fun i row hi => ?_⟩
      · rw [List.flatten_cons, hflat, List.take_append_drop]
      · cases i with
        | zero =>
          obtain rfl : ws.take (t.rowSize r) = row := by simpa using hi
          exact (Bank.loadRow_ne_none b t r hr _).1 (by rw [hb']; exact nofun)
        | succ i =>
          have := hrows i row (by simpa using hi)
          rwa [Nat.add_right_comm, Nat.add_assoc] at this
    · rintro ⟨l, hlen, hflat, hrows⟩
      match l, hlen with
      | row :: l, hlen =>
        have hrow : rowInRange t r row := hrows 0 row rfl
        have hsize := rowInRange_length hr hrow
        subst hflat
        rw [List.flatten_cons, ← hsize, List.take_left, List.drop_left]
        obtain ⟨b', hb'⟩ := Option.ne_none_iff_exists'.1 ((Bank.loadRow_ne_none b t r hr row).2 hrow)
        rw [hb', Option.bind_some]
        refine (ih (by omega)).2 ⟨l, by simpa using hlen, rfl, fun i row' hi => ?_⟩
        have := hrows (i + 1) row' (by simpa using hi)
        rwa [← Nat.add_assoc, Nat.add_right_comm] at this

section
variable {table first count : Word} {rows : List Word}

/-- R27: the tests before the arguments passed, the load is taken or refused with them. -/
theorem requestLoadRows_of_free (hl : a.level = .commission) (hf : s.sched.frozen = false) (hp : s.sched.activation = none) :
    requestLoadRows a table first count rows s =
      match s.sched.loaded table first count rows with
      | none => refuse .badArgument s
      | some c => answerDone [] { s with sched := c } := by
  simp only [requestLoadRows, if_neg (a.not_operate hl), hf, hp, Option.isSome_none, Bool.false_eq_true, if_false]
    <;> rfl

theorem Schedule.loaded_eq {c : Schedule} {t : Table} (ht : Table.ofCode table.toNat = some t) :
    c.loaded table first count rows =
      if t.rowsFit first.toNat count.toNat then
        ((c.staged.getD Bank.zero).loadRows t first.toNat count.toNat rows).map fun b =>
          { c with staged := some b, dirty := c.dirty.add t }
      else none := by
  simp only [Schedule.loaded, ht]

theorem Schedule.loaded_of_no_table {c : Schedule} (h : 3 < table.toNat) : c.loaded table first count rows = none := by
  simp only [Schedule.loaded, (Table.ofCode_eq_none_iff _).2 h]

end

/-- Settles O25: the tests of R27 one by one, and the words by induction on the rows they are to fill. -/
theorem loadRowsTaken : Obligations.LoadRowsTaken := by
  intro s a tag table first count rows htake hrows base answers
  have hanswered : ∀ {code} (v : State), requestLoadRows a table first count rows (s.taking a tag) =
      (v.taking a tag, some (code, [])) → v.rqh = s.rqh → answers code v := fun v =>
    exec_request_answered (act := requestLoadRows a table first count rows) rfl rfl
      (by simp only [List.length_cons]; omega) htake v
  refine ⟨fun b t r n ws => Bank.loadRows_ne_none, fun hl => hanswered s (if_pos hl) rfl,
    fun hl hf => hanswered s ?_ rfl, fun hl hf hp => hanswered s ?_ rfl, fun hl hf hp => ?_⟩
  · exact (if_neg (a.not_operate hl)).trans (if_pos hf)
  · have hpending : s.sched.activation.isSome = true := Option.isSome_iff_ne_none.2 hp
    exact (if_neg (a.not_operate hl)).trans ((if_neg (by simp [State.taking, State.setHolder, hf])).trans (if_pos hpending))
  · have heq := requestLoadRows_of_free (table := table) (first := first) (count := count) (rows := rows)
      (s := s.taking a tag) hl hf hp
    refine ⟨fun hcode => hanswered s ?_ rfl, fun t ht => ⟨fun hbad => hanswered s ?_ rfl, fun b h1 hmax hfit hb => ?_⟩⟩
    · rw [heq, Schedule.loaded_of_no_table hcode]
      rfl
    · have hnone : (s.taking a tag).sched.loaded table first count rows = none := by
        rw [Schedule.loaded_eq ht]
        split
        next hok =>
          rw [Table.rowsFit_iff] at hok
          have hload : base.loadRows t first.toNat count.toNat rows = none := by
            rcases hbad with h | h | h | h
            · omega
            · omega
            · omega
            · exact h
          exact congrArg (Option.map _) hload
        next => rfl
      rw [heq, hnone]
      rfl
    · have hsome : (s.taking a tag).sched.loaded table first count rows =
          some { s.sched with staged := some b, dirty := s.sched.dirty.add t } := by
        rw [Schedule.loaded_eq ht, if_pos (Table.rowsFit_iff.2 ⟨h1, hmax, hfit⟩)]
        exact congrArg (Option.map _) hb
      refine hanswered { s with sched := { s.sched with staged := some b, dirty := s.sched.dirty.add t } } ?_ rfl
      rw [heq, hsome]
      rfl

/-- R194: the words of a loaded row are as many as its size. -/
theorem Bank.loadRow_length {b b' : Bank} {t : Table} {r : Nat} {ws : List Word} (hr : r < t.rows)
    (h : b.loadRow t r ws = some b') : ws.length = t.rowSize r :=
  rowInRange_length hr ((Bank.loadRow_ne_none b t r hr ws).1 (by rw [h]; exact nofun))

theorem Bank.loadRows_frame {t t' : Table} {n r : Nat} (hr : r < t'.rows) :
    ∀ {b b' : Bank} {first : Nat} {ws : List Word}, first + n ≤ t.rows → b.loadRows t first n ws = some b' →
    (t' ≠ t ∨ r < first ∨ first + n ≤ r) → b'.rowWords t' r = b.rowWords t' r := by
  induction n with
  | zero =>
    intro b b' first ws _ h _
    rw [Bank.loadRows_zero] at h
    split at h
    · cases h
      rfl
    · cases h
  | succ n ih =>
    intro b b' first ws hfit h hother
    rw [Bank.loadRows_succ] at h
    obtain ⟨c, hc, h⟩ := Option.bind_eq_some_iff.1 h
    rw [ih (by omega) h (hother.imp_right (Or.imp (by omega) (by omega)))]
    refine Bank.loadRow_frame b c t t' first r _ hc (by omega) hr fun e => ?_
    rcases hother with hne | hlt | hle
    · exact absurd e hne
    · omega
    · omega

theorem Bank.rowsWords_of_loadRows {t : Table} {n : Nat} : ∀ {b b' : Bank} {first : Nat} {ws : List Word},
    first + n ≤ t.rows → b.loadRows t first n ws = some b' →
    b'.rowsWords t first n = ws ∧ ws.length = ((List.range n).map fun i => t.rowSize (first + i)).sum := by
  induction n with
  | zero =>
    intro b b' first ws _ h
    rw [Bank.loadRows_zero] at h
    split at h
    next hws => exact ⟨hws.symm, by rw [hws]; rfl⟩
    next => cases h
  | succ n ih =>
    intro b b' first ws hfit h
    rw [Bank.loadRows_succ] at h
    obtain ⟨c, hc, h⟩ := Option.bind_eq_some_iff.1 h
    have hr : first < t.rows := by omega
    obtain ⟨hwords, hlen⟩ := ih (by omega) h
    have hhead : b'.rowWords t first = ws.take (t.rowSize first) := by
      rw [Bank.loadRows_frame hr (by omega) h (by omega), Bank.loadRow_rowWords b c t first _ hr hc]
    constructor
    · rw [Bank.rowsWords, hhead, hwords, List.take_append_drop]
    · have hsize := Bank.loadRow_length hr hc
      rw [List.range_succ_eq_map, List.map_cons, List.sum_cons, List.map_map]
      have hshift : ((List.range n).map ((fun i => t.rowSize (first + i)) ∘ Nat.succ)) =
          (List.range n).map fun i => t.rowSize (first + 1 + i) :=
        List.map_congr_left fun i _ => by simp only [Function.comp, Nat.succ_eq_add_one]; congr 1; omega
      rw [List.length_take] at hsize
      rw [hshift, ← hlen, Nat.add_zero, List.length_drop]
      omega

/-- Settles O26: by induction on the rows; each row reads back as loaded, and no later load touches it. -/
theorem loadedRowsReadBack : Obligations.LoadedRowsReadBack := by
  intro b b' t first n ws hfit h
  obtain ⟨hwords, hlen⟩ := Bank.rowsWords_of_loadRows hfit h
  exact ⟨hwords, fun t' r hr hother => Bank.loadRows_frame hr hfit h hother, hlen⟩

/-! ## Freeze and row pin (R38, R41, R42) -/

theorem DriveState.mayPin_iff (d : DriveState) : d.mayPin = true ↔ d = .blocked ∨ d = .ready ∨ d = .turning := by
  cases d <;> decide

section
variable {row : Word}

/-- R41: with the level, the freeze and the row in order, the pin rests on the bank and the drive state. -/
theorem requestPin_of_row (hl : a.level = .commission) (hf : s.sched.frozen = false) {r : Fin 32} (hr : row.toNat = r.val) :
    requestPin a row s = if s.sched.active.isSome && s.seq.drive.mayPin then
      answerDone [] { s with sched := { s.sched with pin := some r } } else refuse .refusedState s := by
  have hlt : row.toNat < 32 := hr ▸ r.isLt
  obtain rfl : r = ⟨row.toNat, hlt⟩ := Fin.ext hr.symm
  rw [requestPin, if_neg (a.not_operate hl), if_neg (by simp [hf]), dif_pos hlt]

theorem requestPin_of_large (hl : a.level = .commission) (hf : s.sched.frozen = false) (hr : 32 ≤ row.toNat) :
    requestPin a row s = refuse .badArgument s := by
  rw [requestPin, if_neg (a.not_operate hl), if_neg (by simp [hf]), dif_neg (by omega)]

end

/-- Settles O31: each test of the three rules reads the schedule and the drive state, which taking the request leaves alone. -/
theorem freezePinRelease : Obligations.FreezePinRelease := by
  intro s a tag row htake
  have hfreeze : ∀ {code} (v : State), requestFreeze a (s.taking a tag) = (v.taking a tag, some (code, [])) → v.rqh = s.rqh →
      exec (.freezeTables a.addr tag) s = .next (v.answered a 27 tag code []) :=
    exec_request_answered (act := requestFreeze a) rfl rfl (Nat.zero_le _) htake
  have hpin : ∀ {code} (v : State), requestPin a row (s.taking a tag) = (v.taking a tag, some (code, [])) → v.rqh = s.rqh →
      exec (.pinRow a.addr tag row) s = .next (v.answered a 25 tag code []) :=
    exec_request_answered (act := requestPin a row) rfl rfl (by simp) htake
  have hrelease : ∀ {code} (v : State), requestRelease a (s.taking a tag) = (v.taking a tag, some (code, [])) → v.rqh = s.rqh →
      exec (.releaseRow a.addr tag) s = .next (v.answered a 26 tag code []) :=
    exec_request_answered (act := requestRelease a) rfl rfl (Nat.zero_le _) htake
  refine ⟨fun hl => ⟨hfreeze s (if_pos hl) rfl, hpin s (if_pos hl) rfl, hrelease s (if_pos hl) rfl⟩, fun hl => ?_⟩
  have hlevel := a.not_operate hl
  refine ⟨fun hnone => hfreeze s ?_ rfl, fun hsome => hfreeze { s with sched := { s.sched with frozen := true } } ?_ rfl,
    hrelease { s with sched := { s.sched with pin := none } } (if_neg hlevel) rfl,
    fun hf => hpin s ((if_neg hlevel).trans (if_pos hf)) rfl, fun hf hr => hpin s (requestPin_of_large hl hf hr) rfl,
    fun hf r hr => ?_⟩
  · have hempty : s.sched.active.isNone = true := by rw [hnone]; rfl
    exact (if_neg hlevel).trans (if_pos hempty)
  · have hheld : ¬ s.sched.active.isNone = true := by simpa using hsome
    exact (if_neg hlevel).trans (if_neg hheld)
  · have heq := requestPin_of_row (s := s.taking a tag) hl hf hr
    have hallowed : (s.sched.active.isSome && s.seq.drive.mayPin) = true ↔
        s.sched.active ≠ none ∧ (s.seq.drive = .blocked ∨ s.seq.drive = .ready ∨ s.seq.drive = .turning) := by
      rw [Bool.and_eq_true, Option.isSome_iff_ne_none, DriveState.mayPin_iff]
    refine ⟨fun hno => hpin s (heq.trans (if_neg fun h => hno (hallowed.1 h))) rfl, fun hyes =>
      ⟨{ s with sched := { s.sched with pin := some r } }, hpin _ (heq.trans (if_pos (hallowed.2 hyes))) rfl, rfl, rfl⟩⟩

end Sys2Proof.Machine
end

section
/-! PROOF. The Recorder: the words of a snapshot and of a record header, record requests, readout (R154, R160 to R166, R195). -/

namespace Sys2Proof.Machine

variable {s : State} {a : Asker}

/-! ## Fields of a word (R195) -/

theorem bitsOf_wordOfNat (n lo k : Nat) : bitsOf (wordOfNat n) lo k = n % 65536 / 2 ^ lo % 2 ^ k := by
  simp [bitsOf, wordOfNat]

/-- A bit of a word formed from a number. -/
theorem getLsbD_wordOfNat_eq {n k : Nat} {b : Bool} (h : n % 65536 / 2 ^ k % 2 = b.toNat) : (wordOfNat n).getLsbD k = b := by
  have hbit := toNat_getLsbD (wordOfNat n) k
  rw [show (wordOfNat n).toNat = n % 65536 from BitVec.toNat_ofNat .., h] at hbit
  revert hbit
  cases (wordOfNat n).getLsbD k <;> cases b <;> decide

theorem DriveState.code_lt (d : DriveState) : d.code < 8 := by cases d <;> decide
theorem Quality.code_lt (q : Quality) : q.code < 4 := by cases q <;> decide
theorem Confirmed.code_lt (x : Confirmed) : x.code < 4 := by cases x <;> decide
theorem RawSummary.code_lt (x : RawSummary) : x.code < 4 := by cases x <;> decide

theorem bitsOf_statusWord (p : Snapshot) : bitsOf (wordOfNat p.statusWord) 13 3 = p.drive.code ∧
    bitsOf (wordOfNat p.statusWord) 8 5 = p.row.val := by
  have := p.drive.code_lt
  have := p.limited.a.toNat_le
  have := p.limited.b.toNat_le
  have := p.shockClamp.a.toNat_le
  have := p.shockClamp.b.toNat_le
  have := p.breakaway.toNat_le
  have := p.saturated.a.toNat_le
  have := p.saturated.b.toNat_le
  simp only [bitsOf_wordOfNat, Snapshot.statusWord, bitAt]
  omega

theorem flags_statusWord (p : Snapshot) : (wordOfNat p.statusWord).getLsbD 7 = p.limited.a ∧
    (wordOfNat p.statusWord).getLsbD 6 = p.limited.b ∧ (wordOfNat p.statusWord).getLsbD 5 = p.shockClamp.a ∧
    (wordOfNat p.statusWord).getLsbD 4 = p.shockClamp.b ∧ (wordOfNat p.statusWord).getLsbD 3 = p.breakaway ∧
    (wordOfNat p.statusWord).getLsbD 2 = p.saturated.a ∧ (wordOfNat p.statusWord).getLsbD 1 = p.saturated.b ∧
    (wordOfNat p.statusWord).getLsbD 0 = false := by
  have := p.limited.a.toNat_le
  have := p.limited.b.toNat_le
  have := p.shockClamp.a.toNat_le
  have := p.shockClamp.b.toNat_le
  have := p.breakaway.toNat_le
  have := p.saturated.a.toNat_le
  have := p.saturated.b.toNat_le
  refine ⟨?_, ?_, ?_, ?_, ?_, ?_, ?_, ?_⟩ <;>
  · apply getLsbD_wordOfNat_eq
    simp only [Snapshot.statusWord, bitAt, Bool.toNat_false]
    omega

/-- R192, R195: two bits for each channel in the low byte of a word. -/
theorem bitsOf_confirmedByte (high : Nat) (v : Vector Confirmed 4) (k : Fin 4) :
    bitsOf (wordOfNat (high * 256 + confirmedByte v)) (2 * k.val) 2 = (v[k]).code := by
  have := v[0].code_lt
  have := v[1].code_lt
  have := v[2].code_lt
  have := v[3].code_lt
  rw [bitsOf_wordOfNat, confirmedByte]
  match k with
  | 0 => change _ = v[0].code; simp only [Fin.val_zero]; omega
  | 1 => change _ = v[1].code; simp only [Fin.val_one]; omega
  | 2 => change _ = v[2].code; simp only [Fin.val_two]; omega
  | 3 => change _ = v[3].code; change _ / 2 ^ (2 * 3) % _ = _; omega

theorem bitsOf_rawByte (high : Nat) (v : Vector RawSummary 4) (k : Fin 4) :
    bitsOf (wordOfNat (high * 256 + rawByte v)) (2 * k.val) 2 = (v[k]).code := by
  have := v[0].code_lt
  have := v[1].code_lt
  have := v[2].code_lt
  have := v[3].code_lt
  rw [bitsOf_wordOfNat, rawByte]
  match k with
  | 0 => change _ = v[0].code; simp only [Fin.val_zero]; omega
  | 1 => change _ = v[1].code; simp only [Fin.val_one]; omega
  | 2 => change _ = v[2].code; simp only [Fin.val_two]; omega
  | 3 => change _ = v[3].code; change _ / 2 ^ (2 * 3) % _ = _; omega

theorem confirmedByte_lt (v : Vector Confirmed 4) : confirmedByte v < 256 := by
  have := v[0].code_lt
  have := v[1].code_lt
  have := v[2].code_lt
  have := v[3].code_lt
  rw [confirmedByte]
  omega

theorem rawByte_lt (v : Vector RawSummary 4) : rawByte v < 256 := by
  have := v[0].code_lt
  have := v[1].code_lt
  have := v[2].code_lt
  have := v[3].code_lt
  rw [rawByte]
  omega

/-- R195: the four qualities lie above the confirmed states. -/
theorem Snapshot.qualityWord_eq (p : Snapshot) : p.qualityWord =
    (p.qArm.a.code * 64 + p.qArm.b.code * 16 + p.qSpeed.code * 4 + p.qRef.code) * 256 + confirmedByte p.confirmed := by
  rw [Snapshot.qualityWord]
  omega

theorem bitsOf_qualityWord (p : Snapshot) : bitsOf (wordOfNat p.qualityWord) 14 2 = p.qArm.a.code ∧
    bitsOf (wordOfNat p.qualityWord) 12 2 = p.qArm.b.code ∧ bitsOf (wordOfNat p.qualityWord) 10 2 = p.qSpeed.code ∧
    bitsOf (wordOfNat p.qualityWord) 8 2 = p.qRef.code := by
  have := p.qArm.a.code_lt
  have := p.qArm.b.code_lt
  have := p.qSpeed.code_lt
  have := p.qRef.code_lt
  have := confirmedByte_lt p.confirmed
  simp only [bitsOf_wordOfNat, Snapshot.qualityWord_eq]
  omega

/-- Settles O14: each field fits its bits and the fields do not overlap. -/
theorem snapshotLayout : Obligations.SnapshotLayout := by
  intro p
  obtain ⟨hdrive, hrow⟩ := bitsOf_statusWord p
  obtain ⟨hqa, hqb, hqspeed, hqref⟩ := bitsOf_qualityWord p
  have hconfirmed := bitsOf_confirmedByte (p.qArm.a.code * 64 + p.qArm.b.code * 16 + p.qSpeed.code * 4 + p.qRef.code) p.confirmed
  rw [← p.qualityWord_eq] at hconfirmed
  refine ⟨rfl, rfl, ⟨rfl, hdrive, hrow, flags_statusWord p⟩, ⟨rfl, hqa, hqb, hqspeed, hqref, hconfirmed⟩,
    _, rfl, fun hmarker => ?_, bitsOf_rawByte p.marker p.raw⟩
  have := rawByte_lt p.raw
  rw [bitsOf_wordOfNat]
  omega

/-! ## Record requests (R154, R160 to R162) -/

theorem slotNumber_eq_none {w : Word} (h : 8 ≤ w.toNat) : slotNumber w = none := dif_neg (by omega)

theorem slotNumber_eq_some {w : Word} {k : Fin 8} (h : w.toNat = k.val) : slotNumber w = some k := by
  rw [slotNumber, dif_pos (h ▸ k.isLt)]
  exact congrArg some (Fin.ext h)

theorem requestReadHeader_of_slot {w : Word} {k : Fin 8} (h : w.toNat = k.val) : requestReadHeader w s =
    if s.recorder.slots[k].state = .empty then refuse .notFound s
    else answerDone (s.recorder.slots[k].headerWords ++ [wordOfBool s.recorder.slots[k].pinned]) s := by
  simp only [requestReadHeader, slotNumber_eq_some h]

theorem writeLock_of_slot {l : Bool} {w : Word} {k : Fin 8} (h : w.toNat = k.val) : writeLock l w s =
    if s.recorder.slots[k].state = .empty then refuse .notFound s
    else answerDone [] { s with recorder := s.recorder.setSlot k { s.recorder.slots[k] with locked := l } } := by
  simp only [writeLock, slotNumber_eq_some h]

theorem requestReadHeader_of_large {w : Word} (h : 8 ≤ w.toNat) : requestReadHeader w s = refuse .badArgument s := by
  simp only [requestReadHeader, slotNumber_eq_none h]

theorem writeLock_of_large {l : Bool} {w : Word} (h : 8 ≤ w.toNat) : writeLock l w s = refuse .badArgument s := by
  simp only [writeLock, slotNumber_eq_none h]

/-- R161: at COMMISSION level Unlock Record writes the locked flag. -/
theorem requestUnlock_of_commission {w : Word} (hl : a.level = .commission) : requestUnlock a w s = writeLock false w s :=
  if_neg (a.not_operate hl)

/-- R195: the last milliseconds of the four channels in turn. -/
theorem flatMap_vector4 {α β : Type} (v : Vector α 4) (f : α → List β) :
    v.toList.flatMap f = f v[0] ++ f v[1] ++ f v[2] ++ f v[3] := by
  rcases v with ⟨⟨l⟩, hl⟩
  match l, hl with
  | [x, y, z, w], _ => simp

theorem laterWords_eq (l : List (Nat × Nat)) : laterWords l =
    (l.flatMap fun e => [wordOfNat e.1, wordOfNat e.2]) ++ List.replicate (8 - 2 * l.length) 0 := by
  have hlen : (l.flatMap fun e => [wordOfNat e.1, wordOfNat e.2]).length = 2 * l.length := by
    rw [List.length_flatMap]
    simp [Nat.mul_comm]
  rw [laterWords, hlen]

theorem confirmedByte_eq (v : Vector Confirmed 4) :
    confirmedByte v = v[0].code + 4 * v[1].code + 16 * v[2].code + 64 * v[3].code := by
  rw [confirmedByte]
  omega

theorem RecordSlot.erasable_iff (x : RecordSlot) :
    x.erasable = true ↔ (x.state = .complete ∨ x.state = .truncated) ∧ x.locked = false ∧ x.pinned = false := by
  simp [RecordSlot.erasable, and_assoc]

theorem map8_eq_ofFn {α β : Type} (f : α → β) (v : Vector α 8) : map8 f v = Vector.ofFn fun k : Fin 8 => f v[k] := by
  ext i hi
  rw [Vector.getElem_ofFn]
  exact map8_getElem f v ⟨i, hi⟩

/-- R162: the Recorder after Erase Records. -/
def Recorder.erased (r : Recorder) : Recorder := { r with
  slots := map8 (fun x => if x.erasable then RecordSlot.emptied else x) r.slots
  currentSlot := r.currentSlot.bind fun k => if r.slots[k].erasable then none else some k }

theorem requestErase_of_commission (hl : a.level = .commission) : requestErase a s =
    answerDone [wordOfNat (s.recorder.slots.toList.countP RecordSlot.erasable)] { s with recorder := s.recorder.erased } := by
  rw [requestErase, if_neg (a.not_operate hl), Recorder.erased]
  dsimp only
  cases s.recorder.currentSlot <;> rfl

/-- Settles O46: the arguments, the access level and the slot are judged in turn; the header's words are those of R195. -/
theorem recordRequests : Obligations.RecordRequests := by
  intro s a tag w htake
  have hannotate : ∀ {code ws} (v : State), requestAnnotate w (s.taking a tag) = (v.taking a tag, some (code, ws)) →
      v.rqh = s.rqh → exec (.annotate a.addr tag w) s = .next (v.answered a 14 tag code ws) :=
    exec_request_answered (act := requestAnnotate w) rfl rfl (by simp) htake
  have hheader : ∀ {code ws}, requestReadHeader w (s.taking a tag) = (s.taking a tag, some (code, ws)) →
      exec (.readRecordHeader a.addr tag w) s = .next (s.answered a 15 tag code ws) :=
    exec_request_refused (act := requestReadHeader w) rfl rfl (by simp) htake
  have hlock : ∀ {code ws} (v : State), requestLock w (s.taking a tag) = (v.taking a tag, some (code, ws)) →
      v.rqh = s.rqh → exec (.lockRecord a.addr tag w) s = .next (v.answered a 18 tag code ws) :=
    exec_request_answered (act := requestLock w) rfl rfl (by simp) htake
  have hunlock : ∀ {code ws} (v : State), requestUnlock a w (s.taking a tag) = (v.taking a tag, some (code, ws)) →
      v.rqh = s.rqh → exec (.unlockRecord a.addr tag w) s = .next (v.answered a 19 tag code ws) :=
    exec_request_answered (act := requestUnlock a w) rfl rfl (by simp) htake
  have herase : ∀ {code ws} (v : State), requestErase a (s.taking a tag) = (v.taking a tag, some (code, ws)) →
      v.rqh = s.rqh → exec (.eraseRecords a.addr tag) s = .next (v.answered a 20 tag code ws) :=
    exec_request_answered (act := requestErase a) rfl rfl (by simp) htake
  have hlarge : ∀ l, 8 ≤ w.toNat → writeLock l w (s.taking a tag) = refuse .badArgument (s.taking a tag) :=
    fun l => writeLock_of_large
  refine ⟨fun hbad => hannotate s (if_pos ?_) rfl, fun hne hle => ?_,
    fun hbad => ⟨hheader (requestReadHeader_of_large hbad), hlock s (hlarge true hbad) rfl⟩,
    fun hl => ⟨hunlock s (if_pos hl) rfl, herase s (if_pos hl) rfl⟩,
    fun hl hbad => hunlock s ((requestUnlock_of_commission hl).trans (hlarge false hbad)) rfl,
    fun k hk => ⟨fun hempty => ?_, fun hheld => ?_⟩, fun hl => ?_⟩
  · exact hbad.imp_left fun h => by rw [h]; rfl
  · have hne' : w.toNat ≠ 0 := fun h => hne (BitVec.eq_of_toNat_eq h)
    have hone : (if s.recorder.marker = none then (0 : Word) else 1) = wordOfBool s.recorder.marker.isSome := by
      cases s.recorder.marker <;> rfl
    rw [hone]
    exact hannotate { s with recorder := { s.recorder with marker := some w.toNat } } (if_neg (by omega)) rfl
  · have hno : ∀ l, writeLock l w (s.taking a tag) = refuse .notFound (s.taking a tag) := fun l =>
      (writeLock_of_slot hk).trans (if_pos hempty)
    exact ⟨hheader ((requestReadHeader_of_slot hk).trans (if_pos hempty)), hlock s (hno true) rfl,
      fun hl => hunlock s ((requestUnlock_of_commission hl).trans (hno false)) rfl⟩
  · have hyes : ∀ l, writeLock l w (s.taking a tag) = _ := fun l => (writeLock_of_slot hk).trans (if_neg hheld)
    refine ⟨?_, hlock _ (hyes true) rfl, fun hl => hunlock _ ((requestUnlock_of_commission hl).trans (hyes false)) rfl⟩
    have hwords := hheader ((requestReadHeader_of_slot hk).trans (if_neg hheld))
    simp only [RecordSlot.headerWords, flatMap_vector4, laterWords_eq, confirmedByte_eq] at hwords
    simp only [← List.append_assoc] at hwords ⊢
    exact hwords
  · have hcount : (s.recorder.slots.toList.countP fun x => decide ((x.state = .complete ∨ x.state = .truncated) ∧
        x.locked = false ∧ x.pinned = false)) = s.recorder.slots.toList.countP RecordSlot.erasable :=
      List.countP_congr fun x _ => by rw [decide_eq_true_iff, RecordSlot.erasable_iff]
    have hslots : (Vector.ofFn fun k : Fin 8 => if (s.recorder.slots[k].state = .complete ∨
        s.recorder.slots[k].state = .truncated) ∧ s.recorder.slots[k].locked = false ∧ s.recorder.slots[k].pinned = false
        then RecordSlot.emptied else s.recorder.slots[k]) =
        map8 (fun x => if x.erasable then RecordSlot.emptied else x) s.recorder.slots := by
      simp only [map8_eq_ofFn, RecordSlot.erasable_iff]
    simp only [hcount, hslots]
    refine (herase { s with recorder := s.recorder.erased } (requestErase_of_commission hl) rfl).trans ?_
    rw [Recorder.erased]
    cases s.recorder.currentSlot with
    | none => rfl
    | some k => simp only [Option.bind_some, RecordSlot.erasable_iff] <;> rfl

/-! ## Read Record and Abort Readout (R163, R166) -/

section
variable {slot first count : Word}

/-- R163: with the arguments in range, the tests of the readout and of the slot in their order. -/
theorem requestReadRecord_of_slot {k : Fin 8} (h : slot.toNat = k.val)
    (harg : ¬ (511 < first.toNat ∨ count.toNat < 1 ∨ 512 < count.toNat)) :
    requestReadRecord a slot first count s =
      if s.recorder.readout ≠ .idle then refuse .busy s
      else if s.recorder.slots[k].state = .empty then refuse .notFound s
      else if s.recorder.slots[k].state = .capturing then refuse .refusedState s
      else if s.recorder.slots[k].header.pre + s.recorder.slots[k].header.post < first.toNat + count.toNat then
        refuse .badArgument s
      else answerDone (wordsOfNat32 s.recorder.slots[k].header.seq)
        { s with recorder := { s.recorder.setSlot k { s.recorder.slots[k] with pinned := true } with
          readout := .sending ⟨a.manager, a.addr, k, first.toNat, count.toNat, 0, false,
            match s.sched.active with
            | none => 4
            | some b => b.dc.g3.segmentSize⟩ } } := by
  simp only [requestReadRecord, slotNumber_eq_some h, if_neg harg] <;> rfl

/-- R163: an argument out of range. -/
theorem requestReadRecord_of_outside
    (h : 8 ≤ slot.toNat ∨ 511 < first.toNat ∨ count.toNat < 1 ∨ 512 < count.toNat) :
    requestReadRecord a slot first count s = refuse .badArgument s := by
  by_cases hslot : slot.toNat < 8
  · have hk : slot.toNat = (⟨slot.toNat, hslot⟩ : Fin 8).val := rfl
    simp only [requestReadRecord, slotNumber_eq_some hk]
    exact if_pos (by omega)
  · simp only [requestReadRecord, slotNumber_eq_none (Nat.le_of_not_lt hslot)]

end

/-- R173, test 2: an Abort Readout met by a READING holder is taken in the abort holder. -/
theorem State.commandArrives_abort {tag : Word} (hf : s.forwardingOnly = false) (hsrc : a.addr ≠ s.rp.strap)
    (hm : s.managerOf a.addr = some (a.manager, a.level)) (hr : s.restartPending = false)
    (hl : (s.rqh.get a.manager).replies.length < 4) (hh : (s.rqh.get a.manager).holder.state = .reading)
    (hab : (s.rqh.get a.manager).abortAnswering = false) :
    s.commandArrives a.addr [17, tag] = s.takeAbort a 17 tag := by
  rw [State.commandArrives, if_neg (by simp), if_neg (by simp [hf]), if_neg hsrc]
  simp only [State.handleCommand, hm, State.managerCommand, hr, hh, hab]
  rw [if_neg nofun, if_neg (Nat.not_le.2 hl), if_pos ⟨rfl, trivial⟩, if_neg nofun]

/-- R166: the sender's own readout, SENDING or CLOSING, is aborted. -/
theorem requestAbort_of_own {rd : ReadoutData} (hr : s.recorder.readout = .sending rd ∨ s.recorder.readout = .closing rd)
    (ha : rd.addr = a.addr) : requestAbort a s =
      answerDone [] { s with recorder := { s.recorder with readout := .closing { rd with aborted := true } } } := by
  rcases hr with hr | hr <;> simp only [requestAbort, hr, if_pos ha]

theorem requestAbort_of_idle (hr : s.recorder.readout = .idle) : requestAbort a s = refuse .refusedState s := by
  simp only [requestAbort, hr]

/-- R173, R174: the answer to an Abort Readout taken in the abort holder. -/
theorem State.takeAbort_answers {kind tag : Word} {code : ResultCode} (v : State)
    (ha : requestAbort a { s with rqh := s.rqh.set a.manager { s.rqh.get a.manager with abortAnswering := true } } =
      ({ v with rqh := s.rqh.set a.manager { s.rqh.get a.manager with abortAnswering := true } }, some (code, []))) :
    s.takeAbort a kind tag = { v with
      rqh := s.rqh.set a.manager { s.rqh.get a.manager with
        abortAnswering := true
        replies := (s.rqh.get a.manager).replies ++ [⟨a.addr, kind, tag, code, [], v.cycleTag, .abortAnswer⟩] } } := by
  simp only [State.takeAbort, ha, State.respond, State.formReply]
  cases a.manager <;> rfl

/-- Settles O47: R163's tests in their order; an Abort Readout of the reading manager is taken by R173's test 2. -/
theorem readRecordTaken : Obligations.ReadRecordTaken := by
  intro s a tag slot first count
  refine ⟨fun htake => ?read, fun htake hidle => ?idle, fun rd hf hsrc hm hr hl hh hab hrd hreadout => ?abort⟩
  case read =>
    have hanswered : ∀ {code ws} (v : State), requestReadRecord a slot first count (s.taking a tag) =
        (v.taking a tag, some (code, ws)) → v.rqh = s.rqh →
        exec (.readRecord a.addr tag slot first count) s = .next (v.answered a 16 tag code ws) :=
      exec_request_answered (act := requestReadRecord a slot first count) rfl rfl (by simp) htake
    refine ⟨fun hout => hanswered s (requestReadRecord_of_outside hout) rfl, fun hin hbusy => ?_, fun hidle hin k hk => ?_⟩
    · have hslot : slot.toNat < 8 := by omega
      have hk : slot.toNat = (⟨slot.toNat, hslot⟩ : Fin 8).val := rfl
      exact hanswered s ((requestReadRecord_of_slot hk (by omega)).trans (if_pos hbusy)) rfl
    · have heq : requestReadRecord a slot first count (s.taking a tag) = _ :=
        (requestReadRecord_of_slot hk (by omega)).trans (if_neg (by simpa using hidle))
      have hend : s.recorder.slots[k].state = .complete ∨ s.recorder.slots[k].state = .truncated →
          ¬ s.recorder.slots[k].state = .empty ∧ ¬ s.recorder.slots[k].state = .capturing := by
        rintro (h | h) <;> rw [h] <;> exact ⟨nofun, nofun⟩
      refine ⟨fun h => hanswered s (heq.trans (if_pos h)) rfl, fun h => ?_, fun h hlt => ?_, fun h hle => ?_⟩
      · have hne : ¬ s.recorder.slots[k].state = .empty := by rw [h]; exact nofun
        exact hanswered s (heq.trans ((if_neg hne).trans (if_pos h))) rfl
      · obtain ⟨h1, h2⟩ := hend h
        exact hanswered s (heq.trans ((if_neg h1).trans ((if_neg h2).trans (if_pos hlt)))) rfl
      · obtain ⟨h1, h2⟩ := hend h
        exact hanswered _ (heq.trans ((if_neg h1).trans ((if_neg h2).trans (if_neg (Nat.not_lt.2 hle))))) rfl
  case idle =>
    exact exec_request_refused (act := requestAbort a) rfl rfl (by simp) htake (requestAbort_of_idle hidle)
  case abort =>
    have harrives := State.commandArrives_abort (tag := tag) hf hsrc hm hr hl hh hab
    have habort := requestAbort_of_own (a := a)
      (s := { s with rqh := s.rqh.set a.manager { s.rqh.get a.manager with abortAnswering := true } }) hreadout hrd
    refine congrArg _ (harrives.trans ?_)
    exact State.takeAbort_answers { s with recorder := { s.recorder with readout := .closing { rd with aborted := true } } } habort

/-! ## Readout frames (R164, R165) -/

theorem State.joinQueue_queue (f : RawFrame) (s : State) : (s.joinQueue f).rp.queue = s.rp.queue ++ [f] := by
  unfold State.joinQueue State.arbitrate
  repeat' split
  all_goals rfl

theorem State.placeFree_iff (hs : s.forwardingOnly = false) : s.placeFree = true ↔ s.rp.queue.length < 16 := by
  simp [State.placeFree, hs]

theorem State.segmentQueued_eq_false_iff :
    s.segmentQueued = false ↔ ∀ f ∈ s.rp.queue, f.kindCode ≠ kindRecordData := by
  simp [State.segmentQueued]

theorem State.mayTake_of_free (hs : s.forwardingOnly = false) (hq : s.rp.queue.length < 16) {p : Producer}
    (hw : ¬ s.mustWait p) : s.mayTake p = s.producerReady p := by
  rw [Bool.eq_iff_iff, s.mayTake_iff, State.placeFree_iff hs]
  simp [hq, hw]

/-- R7, R164: the Recorder's readiness in SENDING. -/
theorem State.producerReady_of_sending {rd : ReadoutData} (h : s.recorder.readout = .sending rd)
    (hseg : ∀ f ∈ s.rp.queue, f.kindCode ≠ kindRecordData) :
    s.producerReady .record = true ↔ (s.rqh.get rd.manager).holder.state = .reading := by
  simp only [State.producerReady, h, State.segmentQueued_eq_false_iff.2 hseg, Bool.not_false, Bool.and_true, beq_iff_eq]

theorem State.producerReady_of_closing {rd : ReadoutData} (h : s.recorder.readout = .closing rd)
    (hseg : ∀ f ∈ s.rp.queue, f.kindCode ≠ kindRecordData) : s.producerReady .record = true := by
  simp only [State.producerReady, h, State.segmentQueued_eq_false_iff.2 hseg, Bool.not_false]

theorem State.sendSegment_of_not_sending (h : ∀ rd, s.recorder.readout ≠ .sending rd) : s.sendSegment = s := by
  unfold State.sendSegment
  split
  next rd hrd => exact absurd hrd (h rd)
  next => rfl

theorem State.sendRecordEnd_of_not_closing (h : ∀ rd, s.recorder.readout ≠ .closing rd) : s.sendRecordEnd = s := by
  unfold State.sendRecordEnd
  split
  next rd hrd => exact absurd hrd (h rd)
  next => rfl

/-- R164: a segment produced. -/
theorem State.sendSegment_of_mayTake {rd : ReadoutData} (h : s.recorder.readout = .sending rd) (ht : s.mayTake .record = true) :
    s.sendSegment = (State.joinQueue (s.ownFrame rd.addr kindRecordData
      (segmentPayload s.recorder.slots[rd.slot] rd (min rd.segSize rd.remaining)))
      { s with recorder := { s.recorder with
        readout := if rd.remaining - min rd.segSize rd.remaining = 0
          then .closing (rd.advanced (min rd.segSize rd.remaining))
          else .sending (rd.advanced (min rd.segSize rd.remaining)) } }).tookPlace .record := by
  simp only [State.sendSegment, h, if_pos ht]

/-- R165: a record end frame produced. -/
theorem State.sendRecordEnd_of_mayTake {rd : ReadoutData} (h : s.recorder.readout = .closing rd) (ht : s.mayTake .record = true) :
    s.sendRecordEnd = (State.joinQueue (s.ownFrame rd.addr kindRecordEnd (recordEndPayload s.recorder.slots[rd.slot] rd))
      (s.endReadout rd)).tookPlace .record := by
  simp only [State.sendRecordEnd, h, if_pos ht]

/-- Settles O48: the producer's readiness decides the segment; the frame takes the place free, and the readout advances or ends. -/
theorem readoutFrames : Obligations.ReadoutFrames := by
  intro s rd hs hq hw hseg
  have htake := State.mayTake_of_free hs hq hw
  refine ⟨fun hr hreading => ?send, fun hr hnot => ?waits, fun hr => ?ends,
    fun hr => congrArg Host.Outcome.next (State.sendRecordEnd_of_not_closing (by rw [hr]; exact nofun)),
    fun hr => congrArg Host.Outcome.next (State.sendSegment_of_not_sending (by rw [hr]; exact nofun)),
    fun hr => ⟨congrArg Host.Outcome.next (State.sendSegment_of_not_sending (by rw [hr]; exact nofun)),
      congrArg Host.Outcome.next (State.sendRecordEnd_of_not_closing (by rw [hr]; exact nofun))⟩⟩
  case waits =>
    have hnot' : ¬ s.mayTake .record = true := by rw [htake, State.producerReady_of_sending hr hseg]; exact hnot
    have hsame : s.sendSegment = s := by simp only [State.sendSegment, hr, if_neg hnot']
    exact congrArg _ hsame
  case send =>
    have hyes : s.mayTake .record = true := by rw [htake, State.producerReady_of_sending hr hseg]; exact hreading
    refine ⟨_, congrArg Host.Outcome.next (State.sendSegment_of_mayTake hr hyes), State.joinQueue_queue .., ?_, ?_⟩
    · rw [State.tookPlace_recorder, State.joinQueue_recorder]
      simp only [Nat.sub_eq_zero_iff_le]
      rfl
    · rw [State.tookPlace_rqh, State.joinQueue_rqh]
  case ends =>
    have hyes : s.mayTake .record = true := by rw [htake, State.producerReady_of_closing hr hseg]
    refine ⟨_, congrArg Host.Outcome.next (State.sendRecordEnd_of_mayTake hr hyes), State.joinQueue_queue .., ?_, ?_⟩
    · rw [State.tookPlace_recorder, State.joinQueue_recorder]
      rfl
    · rw [State.tookPlace_rqh, State.joinQueue_rqh, State.endReadout, Requests.get_set]

end Sys2Proof.Machine
end

section
/-! PROOF. Requests refused before their owning rule (R170 to R175), the producers of the general transmit queue (R7, R174, R188). -/

namespace Sys2Proof.Machine

variable {s : State} {a : Asker}

/-! ## Requests that no owning rule judges -/

/-- R193: the kinds of request with their argument counts. -/
def argumentsFit (kind n : Nat) : Prop :=
  if kind = 22 then 3 ≤ n
  else if kind ∈ [2, 9, 14, 15, 18, 19, 25] then n = 1
  else if kind = 16 then n = 3
  else if kind = 21 then n = 4
  else 1 ≤ kind ∧ kind ≤ 28 ∧ n = 0

/-- R171, R193: only a known kind with its argument count has an owning rule. -/
theorem argumentsFit_of_decides {kind : Nat} {args : List Word} {act : State → Answered}
    (h : ownerDecides a kind args = some act) : argumentsFit kind args.length := by
  have hkind : kind < 29 ∨ ∃ n, kind = n + 29 := by
    by_cases hk : kind < 29
    · exact .inl hk
    · exact .inr ⟨kind - 29, by omega⟩
  rcases hkind with hk | ⟨n, rfl⟩
  · rcases args with _ | ⟨x, _ | ⟨y, _ | ⟨z, _ | ⟨w, _ | ⟨v, l⟩⟩⟩⟩⟩ <;> interval_cases kind <;> cases h <;> simp [argumentsFit]
  · cases h

theorem ownerDecides_eq_none {kind : Nat} {args : List Word} (h : ¬ argumentsFit kind args.length) :
    ownerDecides a kind args = none := by
  cases hd : ownerDecides a kind args with
  | none => rfl
  | some act => exact absurd (argumentsFit_of_decides hd) h

section
variable {src : Addr} {ws : List Word}

/-- R2, R170: a request at a station, from another station. -/
theorem State.commandArrives_handles (hn : ws.length ≤ 64) (hs : s.forwardingOnly = false) (hsrc : src ≠ s.rp.strap) :
    s.commandArrives src ws = s.handleCommand src ws := by
  rw [State.commandArrives, if_neg (Nat.not_lt.2 hn), if_neg (by simp [hs]), if_neg hsrc]

theorem State.handleCommand_of_short (h : ws.length < 2) : s.handleCommand src ws = s.countUnexpected := by
  match ws, h with
  | [], _ => rfl
  | [_], _ => rfl

theorem State.handleCommand_of_stranger (h : s.managerOf src = none) : s.handleCommand src ws = s.countUnexpected := by
  match ws with
  | [] => rfl
  | [_] => rfl
  | kind :: tag :: args => simp only [State.handleCommand, h]

end

section
variable {kind tag : Word} {args : List Word}

/-- R173, R175: a command met by a Restart in progress or by four responses waiting is discarded. -/
theorem State.managerCommand_discarded (h : s.restartPending = true ∨ 4 ≤ (s.rqh.get a.manager).replies.length) :
    s.managerCommand a kind tag args = s.commandOverrun := by
  simp only [State.managerCommand]
  split
  next => rfl
  next hr => rw [if_pos (h.resolve_left hr)]

/-- R173: a command met by a holder that is not FREE is refused BUSY, but for the Abort Readout of a reading manager. -/
theorem State.managerCommand_busy (hr : s.restartPending = false) (hl : (s.rqh.get a.manager).replies.length < 4)
    (hh : (s.rqh.get a.manager).holder.state ≠ .free)
    (hab : kind.toNat ≠ 17 ∨ (s.rqh.get a.manager).holder.state ≠ .reading ∨ (s.rqh.get a.manager).abortAnswering = true) :
    s.managerCommand a kind tag args = s.refuseBusy a kind tag := by
  simp only [State.managerCommand]
  rw [if_neg (by simp [hr]), if_neg (Nat.not_le.2 hl)]
  split
  next habort =>
    obtain ⟨hkind, hreading⟩ := habort
    exact if_pos ((hab.resolve_left (absurd hkind)).resolve_left (absurd hreading))
  next => rfl

end

/-- Settles O49: the tests of R170 and R173 in their order, and the request list for what no owning rule decides. -/
theorem requestsRefused : Obligations.RequestsRefused := by
  intro s c src ws hc hn hs hsrc
  rw [exec_request hc, State.commandArrives_handles hn hs hsrc]
  refine ⟨fun h => congrArg _ (State.handleCommand_of_short h), fun h => congrArg _ (State.handleCommand_of_stranger h),
    fun kind tag args m level hws hm => ?_⟩
  have hhandle : s.handleCommand src ws = s.managerCommand ⟨m, level, src⟩ kind tag args := by
    rw [hws]
    simp only [State.handleCommand, hm]
  refine ⟨fun h => congrArg _ (hhandle.trans (State.managerCommand_discarded h)), fun hr hl hh hab => ?_, fun htake hbad => ?_⟩
  · have hbusy := hhandle.trans (State.managerCommand_busy hr hl hh hab)
    exact ⟨fun hle => congrArg _ (hbusy.trans (if_pos hle)),
      fun hlt => congrArg _ (hbusy.trans (if_neg (Nat.not_le.2 hlt)))⟩
  · have hargs : args.length ≤ 62 := by
      rw [hws, List.length_cons, List.length_cons] at hn
      omega
    have htaken := s.commandArrives_takes htake kind tag hargs
    rw [← State.commandArrives_handles hn hs hsrc, hws]
    exact congrArg _ (htaken.trans (s.takeRequest_bad (ownerDecides_eq_none hbad)))

/-! ## The Reporter's notices (R187, R188) -/

theorem State.flushExpires_of_running {us : Nat} (h : s.rpt.flush = .running us) : s.flushExpires =
    { s with rpt := { s.rpt with flush := if s.rpt.notices.isEmpty then .stopped else .flushDue } } := by
  simp only [State.flushExpires, h]

theorem State.flushExpires_of_not_running (h : s.rpt.flush = .stopped ∨ s.rpt.flush = .flushDue) : s.flushExpires = s := by
  rcases h with h | h <;> simp only [State.flushExpires, h]

/-- R187: an append with a place free. -/
theorem Reporter.append_of_lt {r : Reporter} {e : Notice} {x : FlushTimer} (h : r.notices.length < 32) : r.append e x =
    { r with notices := r.notices ++ [e], flush := if r.flush = .flushDue then .flushDue else x } := if_pos h

/-- R187: an append with 32 held. -/
theorem Reporter.append_of_full {r : Reporter} {e : Notice} {x : FlushTimer} (h : 32 ≤ r.notices.length) :
    r.append e x = { r with overflow := true } := if_neg (Nat.not_lt.2 h)

/-- Settles O52: the timer's three states, and the append's two cases. -/
theorem noticesFlushed : Obligations.NoticesFlushed := by
  intro s us x
  refine ⟨fun h => congrArg Host.Outcome.next ?_, fun h => congrArg Host.Outcome.next (State.flushExpires_of_not_running h),
    fun h => ?_, fun h => ?_⟩
  · simp only [State.flushExpires_of_running h, List.isEmpty_iff]
  · exact congrArg (fun r => { s with rpt := r }) (Reporter.append_of_lt
      (r := { s.rpt with attention := s.rpt.attention.set x.kind.index true }) h)
  · exact congrArg (fun r => { s with rpt := r }) (Reporter.append_of_full
      (r := { s.rpt with attention := s.rpt.attention.set x.kind.index true }) h)

/-! ## Readiness of the producers (R7) -/

theorem State.producerReady_reply_iff (m : Manager) :
    s.producerReady (.reply m) = true ↔ (s.rqh.get m).replies ≠ [] := by
  simp [State.producerReady]

theorem State.producerReady_notice_iff : s.producerReady .notice = true ↔
    s.rpt.notices ≠ [] ∧ (s.noticeTrigger ≤ s.rpt.notices.length ∨ s.rpt.flush = .flushDue) := by
  simp [State.producerReady]

theorem State.producerReady_record_iff : s.producerReady .record = true ↔
    (∀ f ∈ s.rp.queue, f.kindCode ≠ kindRecordData) ∧ ∃ rd, s.recorder.readout = .closing rd ∨
      s.recorder.readout = .sending rd ∧ (s.rqh.get rd.manager).holder.state = .reading := by
  rw [← State.segmentQueued_eq_false_iff, State.producerReady]
  cases h : s.recorder.readout with
  | idle => simp
  | sending rd => simp [and_comm]
  | closing rd => simp

theorem State.producerReady_aux_iff : s.producerReady .aux = true ↔ s.seq.outgoing ≠ none := by
  rw [State.producerReady, Option.isSome_iff_ne_none]

/-- R7: what the readiness of the producers reads. -/
theorem State.producerReady_congr {t : State} (hrqh : t.rqh = s.rqh) (hrpt : t.rpt = s.rpt) (hsched : t.sched = s.sched)
    (hrecorder : t.recorder = s.recorder) (hseq : t.seq = s.seq) (hqueue : t.rp.queue = s.rp.queue) :
    t.producerReady = s.producerReady := by
  funext p
  cases p <;> simp only [State.producerReady, State.segmentQueued, State.noticeTrigger, hrqh, hrpt, hsched, hrecorder, hseq, hqueue]
    <;> rfl

/-- R7: the producers first in turn have stayed ready. -/
theorem State.producerReady_of_front {p : Producer} (h : p ∈ s.frontWaiters) : s.producerReady p = true := by
  unfold State.frontWaiters at h
  cases hf : (s.rp.waiters.map s.stillReady).find? fun ws => ws.any (·.owed) with
  | none => simp [hf] at h
  | some ws =>
    rw [hf, Option.getD_some] at h
    obtain ⟨w, hw, rfl⟩ := List.mem_map.1 h
    obtain ⟨x, -, rfl⟩ := List.mem_map.1 (List.mem_of_find?_eq_some hf)
    exact (List.mem_filter.1 hw).2

/-- R7: where a producer is ready, one is ready that need not wait. -/
theorem State.exists_ready_not_waiting {p : Producer} (hp : s.producerReady p = true) :
    ∃ p', s.producerReady p' = true ∧ ¬ s.mustWait p' := by
  cases hfront : s.frontWaiters with
  | nil => exact ⟨p, hp, (s.front_iff hp s.rp.waiters).1 (.inl (List.isEmpty_iff.2 hfront))⟩
  | cons q l =>
    have hq : q ∈ s.frontWaiters := by rw [hfront]; exact List.mem_cons_self
    have hready := State.producerReady_of_front hq
    exact ⟨q, hready, (s.front_iff hready s.rp.waiters).1 (.inr (List.contains_iff_mem.2 hq))⟩

/-! ## A place falls free, and one is taken (R7) -/

theorem State.arbitrate_queue (s : State) : s.arbitrate.rp.queue = s.rp.queue := by
  unfold State.arbitrate
  repeat' split
  all_goals rfl

theorem State.arbitrate_producerReady (s : State) : s.arbitrate.producerReady = s.producerReady := by
  rw [State.arbitrate_eq s]
  exact State.producerReady_congr rfl rfl rfl rfl rfl (State.arbitrate_queue s)

/-- R7: a place falls free: the producers then ready, and the waiters recorded. -/
theorem State.placeFellFree_waiters (s : State) :
    s.placeFellFree.rp.waiters =
      if Producer.all.filter s.placeFellFree.producerReady = [] then [] else
        ((s.rp.waiters.map s.placeFellFree.stillReady).filter fun ws => ws.any (·.owed) &&
          ws.map (·.producer) != Producer.all.filter s.placeFellFree.producerReady) ++
        [(Producer.all.filter s.placeFellFree.producerReady).map fun p => ⟨p, true⟩] := by
  have hready : s.placeFellFree.producerReady =
      ({ s with rp := { s.rp with queue := s.rp.queue.tail } } : State).producerReady :=
    State.producerReady_congr rfl rfl rfl rfl rfl rfl
  have hstill : s.placeFellFree.stillReady = ({ s with rp := { s.rp with queue := s.rp.queue.tail } } : State).stillReady := by
    funext ws
    rw [State.stillReady, State.stillReady, hready]
  have hmap : ∀ l : List Producer, (l.map fun p => (⟨p, true⟩ : Waiter)).map (·.producer) = l := fun l => by
    rw [List.map_map]
    exact List.map_id l
  rw [hready, hstill]
  simp only [State.placeFellFree, List.isEmpty_iff, List.map_eq_nil_iff, hmap]

theorem servedWaiters_eq (p : Producer) (ready : Bool) (ws : List Waiter) : servedWaiters p ready ws =
    if ready then ws.map fun w => if w.producer = p then ⟨p, false⟩ else w else ws.filter fun w => w.producer ≠ p := by
  have hmark : ∀ w : Waiter, (if w.producer = p then { w with owed := false } else w) =
      if w.producer = p then ⟨p, false⟩ else w := by
    intro w
    split
    next h => rw [← h]
    next => rfl
  unfold servedWaiters
  simp only [hmark]
  split
  · rfl
  · exact List.filter_congr fun w _ => by rw [bne, beq_eq_decide, decide_not]

theorem State.joinQueue_waiters (f : RawFrame) (s : State) : (s.joinQueue f).rp.waiters = s.rp.waiters :=
  State.arbitrate_waiters _

/-- R7: the waiters after a producer has been served, by the readiness of the state it leaves. -/
theorem State.served_waiters (f : RawFrame) (p : Producer) :
    ((s.joinQueue f).tookPlace p).rp.waiters = s.rp.waiters.map fun ws =>
      if ((s.joinQueue f).tookPlace p).producerReady p then ws.map fun w => if w.producer = p then ⟨p, false⟩ else w
      else ws.filter fun w => w.producer ≠ p := by
  have hready : ((s.joinQueue f).tookPlace p).producerReady = (s.joinQueue f).producerReady :=
    State.producerReady_congr rfl rfl rfl rfl rfl rfl
  simp only [hready, ← servedWaiters_eq]
  rw [← s.joinQueue_waiters f]
  rfl

/-- R7: a producer that has no place, must wait or is not ready does nothing. -/
theorem State.offer_declined {c : Instr} {p : Producer}
    (hc : (c, p) ∈ [(Instr.auxFrameQueued, Producer.aux), (.noticeFrame, .notice), (.responseQueued .driveMaster, .reply .driveMaster),
      (.responseQueued .serviceStation, .reply .serviceStation), (.recordData, .record), (.recordEnd, .record)])
    (h : s.mayTake p = false) : exec c s = .next s := by
  have hreply : ∀ m, s.mayTake (.reply m) = false → s.sendReply m = s := by
    intro m hm
    simp only [State.sendReply]
    split
    · rfl
    · rw [if_neg (by simp [hm])]
  simp only [List.mem_cons, Prod.mk.injEq, List.not_mem_nil, or_false] at hc
  rcases hc with ⟨rfl, rfl⟩ | ⟨rfl, rfl⟩ | ⟨rfl, rfl⟩ | ⟨rfl, rfl⟩ | ⟨rfl, rfl⟩ | ⟨rfl, rfl⟩ <;>
    refine congrArg Host.Outcome.next ?_
  · unfold State.sendAux
    split
    · rfl
    · rw [if_neg (by simp [h])]
  · rw [State.sendNotices, if_neg (by simp [h])]
  · exact hreply _ h
  · exact hreply _ h
  · unfold State.sendSegment
    split
    · rw [if_neg (by simp [h])]
    · rfl
  · unfold State.sendRecordEnd
    split
    · rw [if_neg (by simp [h])]
    · rfl

theorem State.sendAux_of_mayTake {f : RawFrame} (hf : s.seq.outgoing = some f) (h : s.mayTake .aux = true) :
    s.sendAux = (State.joinQueue f { s with seq := { s.seq with outgoing := none } }).tookPlace .aux := by
  simp only [State.sendAux, hf, if_pos h]

/-- R174: the head response of a manager's reply list takes a place. -/
theorem State.sendReply_of_mayTake {m : Manager} {r : Reply} {rest : List Reply} (hr : (s.rqh.get m).replies = r :: rest)
    (h : s.mayTake (.reply m) = true) : s.sendReply m =
      (State.joinQueue (s.responseFrame r)
        { s.responseDrawn r with rqh := s.rqh.set m ((s.rqh.get m).replied r rest) }).tookPlace (.reply m) := by
  simp only [State.sendReply, hr, if_pos h]

/-- R171: a response frame carries the cycle tag of its forming or of its joining the queue. -/
theorem State.responseFrame_eq (r : Reply) (s : State) : ∃ tag, (tag = r.formedTag ∨ tag = s.cycleTag) ∧
    s.responseFrame r = makeFrame r.dest s.rp.strap kindResponse tag
      (r.kind :: r.tag :: wordOfNat r.result.code :: r.results) := by
  unfold State.responseFrame
  split
  · exact ⟨_, .inl rfl, rfl⟩
  · exact ⟨_, .inr rfl, rfl⟩

theorem Holder.answered_eq (h : Holder) (r : Reply) : h.answered r = { h with state :=
    if r.result = .done ∧ r.kind = 16 then .reading else if r.result = .done ∧ r.kind = 28 then .restarting else .free } := by
  unfold Holder.answered
  rw [show wordOfNat reqReadRecord = 16 from rfl, show wordOfNat reqRestart = 28 from rfl]
  split
  · rfl
  · split <;> rfl

theorem Reporter.noticePayload_eq (r : Reporter) (n : Nat) :
    r.noticePayload n = wordOfNat (n + if r.overflow then 32768 else 0) ::
      (r.notices.take n).flatMap fun e =>
        [wordOfNat e.kind.code, wordOfNat e.causeCode, e.tag, wordOfNat e.who.code, wordOfInt e.detail] := by
  have hflag : bitAt r.overflow 15 + n = n + if r.overflow then 32768 else 0 := by
    cases r.overflow <;> simp [bitAt, Nat.add_comm]
  rw [Reporter.noticePayload, hflag]
  rfl

/-- R7: as a general frame has left, the falls recorded with the producers then ready. -/
theorem State.transmissionEnds_waiters {g : RawFrame} (hport : s.rp.port = .general g) (hrestart : s.sendingRestart = false) :
    ∃ older : List (List Waiter),
      (let t := s.transmissionEnds
       let ready := Producer.all.filter t.producerReady
       let still := s.rp.waiters.map fun ws => ws.filter fun w => t.producerReady w.producer
       (ready = [] → t.rp.waiters = []) ∧
       (ready ≠ [] → t.rp.waiters = older ++ [ready.map fun p => ⟨p, true⟩] ∧ older.Sublist still ∧
         ∀ ws ∈ still, t.owes ws → ws ∈ older ∨ ws.map (·.producer) = ready)) := by
  have hbusy : s.rp.port ≠ .idle := by rw [hport]; exact nofun
  obtain ⟨hnot, -⟩ | ⟨-, hends⟩ := State.transmissionEnds_cases hbusy hrestart
  · exact absurd hport (hnot g)
  have hready : s.transmissionEnds.producerReady = s.portIdle.placeFellFree.producerReady := by
    rw [hends, State.arbitrate_producerReady]
  have hwaiters : s.transmissionEnds.rp.waiters = s.portIdle.placeFellFree.rp.waiters := by
    rw [hends, State.arbitrate_waiters]
  have hrecorded := s.portIdle.placeFellFree_waiters
  have hstill : s.portIdle.placeFellFree.stillReady =
      fun ws => ws.filter fun w => s.transmissionEnds.producerReady w.producer := by
    funext ws
    rw [hready, State.stillReady]
  simp only [hstill, ← hready, ← hwaiters] at hrecorded
  refine ⟨_, fun hnone => hrecorded.trans (if_pos hnone), fun hsome => ⟨hrecorded.trans (if_neg hsome), List.filter_sublist, ?_⟩⟩
  rintro ws hws ⟨w, hw, howed, -⟩
  rw [or_iff_not_imp_right]
  intro hne
  have hany : ws.any (·.owed) = true := List.any_eq_true.2 ⟨w, hw, howed⟩
  exact List.mem_filter.2 ⟨hws, by rw [hany, Bool.true_and, bne_iff_ne]; exact hne⟩

/-- Settles O51: readiness block by block, the falls of a place as the port frees one, and each producer served by its own frame. -/
theorem framesQueued : Obligations.FramesQueued := by
  intro s hs
  refine ⟨State.producerReady_reply_iff, State.producerReady_notice_iff, State.producerReady_record_iff,
    State.producerReady_aux_iff, fun p hp => State.exists_ready_not_waiting hp, fun g hport hrestart => ?falls,
    fun o ho hno => ?declined, fun ⟨hq, hw⟩ f hf => ?aux, fun ⟨hq, hw⟩ hready => ?notice,
    fun m ⟨hq, hw⟩ r rest hr => ?reply⟩
  case falls =>
    obtain ⟨older, h⟩ := State.transmissionEnds_waiters hport hrestart
    exact ⟨_, older, rfl, h⟩
  case declined =>
    refine State.offer_declined ho ?_
    rw [← Bool.not_eq_true, s.mayTake_iff, State.placeFree_iff hs]
    rintro ⟨hq, hready, hw⟩
    rcases hno with h | h | h
    · omega
    · exact hw h
    · rw [h] at hready
      cases hready
  case aux =>
    have hready : s.producerReady .aux = true := State.producerReady_aux_iff.2 (by rw [hf]; exact nofun)
    have htake : s.mayTake .aux = true := (State.mayTake_of_free hs hq hw).trans hready
    refine ⟨_, congrArg Host.Outcome.next (State.sendAux_of_mayTake hf htake), State.joinQueue_queue .., ?_, State.served_waiters ..⟩
    rw [State.tookPlace_seq, State.joinQueue_seq]
  case notice =>
    have htake : s.mayTake .notice = true := (State.mayTake_of_free hs hq hw).trans hready
    have hsend : s.sendNotices = (State.joinQueue (s.ownFrame 0 kindNotice (s.rpt.noticePayload (min 8 s.rpt.notices.length)))
        { s with rpt := { s.rpt with
          notices := s.rpt.notices.drop (min 8 s.rpt.notices.length), overflow := false, flush := s.flushReload } }).tookPlace
        .notice := by
      simp only [State.sendNotices, if_pos htake]
    refine ⟨_, congrArg Host.Outcome.next hsend, ?_, ?_, State.served_waiters ..⟩
    · exact (State.joinQueue_queue ..).trans (by rw [Reporter.noticePayload_eq]; rfl)
    · rw [State.tookPlace_rpt, State.joinQueue_rpt]
      rfl
  case reply =>
    have hready : s.producerReady (.reply m) = true := (State.producerReady_reply_iff m).2 (by rw [hr]; exact nofun)
    have htake : s.mayTake (.reply m) = true := (State.mayTake_of_free hs hq hw).trans hready
    obtain ⟨tag, htag, hframe⟩ := s.responseFrame_eq r
    have hrp := s.responseDrawn_rp r
    refine ⟨_, tag, congrArg Host.Outcome.next (State.sendReply_of_mayTake hr htake), htag, ?_, ?_, ?_⟩
    · rw [hframe]
      exact (State.joinQueue_queue ..).trans (by rw [hrp])
    · rw [State.tookPlace_rqh, State.joinQueue_rqh]
      simp only [ManagerState.replied, Holder.answered_eq]
      cases r.purpose <;> rfl
    · have hserved := State.served_waiters (s := { s.responseDrawn r with rqh := s.rqh.set m ((s.rqh.get m).replied r rest) })
        (s.responseFrame r) (.reply m)
      exact hserved.trans (congrArg (List.map _) (congrArg RingPort.waiters hrp))

end Sys2Proof.Machine
end

section
/-! PROOF. Restart and the resets (R8, R43, R137, R169, R179 to R181, R196). -/

namespace Sys2Proof.Machine

variable {s : State} {a : Asker}

/-! ## The Restart request (R179) -/

/-- R179: what bars a Restart at COMMISSION level. -/
def State.restartBarred (s : State) : Prop :=
  s.seq.drive.isRunning = true ∨ s.seq.drive = .auxiliary ∨ s.seq.grant ≠ .none ∨
    ∃ k : Fin 8, s.recorder.slots[k].state = .capturing

theorem Recorder.capturing_isSome_iff (r : Recorder) :
    r.capturing.isSome = true ↔ ∃ k : Fin 8, r.slots[k].state = .capturing := by
  rw [Option.isSome_iff_ne_none, Ne, Recorder.capturing_none]
  simp only [not_forall, not_not]

theorem requestRestart_of_barred (hl : a.level = .commission) (h : s.restartBarred) :
    requestRestart a s = refuse .refusedState s := by
  rw [requestRestart, if_neg (a.not_operate hl)]
  split
  · rfl
  next hdrive =>
    split
    · rfl
    next hgrant =>
      rw [Bool.or_eq_true, beq_iff_eq, not_or] at hdrive
      have hslot := ((h.resolve_left hdrive.1).resolve_left hdrive.2).resolve_left hgrant
      rw [if_pos ((Recorder.capturing_isSome_iff _).2 hslot)]

theorem requestRestart_of_free (hl : a.level = .commission) (h : ¬ s.restartBarred) : requestRestart a s = answerDone [] s := by
  simp only [State.restartBarred, not_or] at h
  obtain ⟨hrunning, haux, hgrant, hslot⟩ := h
  have hdrive : ¬ (s.seq.drive.isRunning || s.seq.drive == .auxiliary) = true := by
    rw [Bool.or_eq_true, beq_iff_eq, not_or]
    exact ⟨hrunning, haux⟩
  rw [requestRestart, if_neg (a.not_operate hl), if_neg hdrive, if_neg hgrant,
    if_neg (mt (Recorder.capturing_isSome_iff _).1 hslot)]

/-! ## Restart takes effect (R180) -/

/-- R180: the end of a Restart response's transmission. -/
theorem State.transmissionEnds_of_restart (h : s.sendingRestart = true) : s.transmissionEnds = s.restarted.arbitrate := by
  unfold State.transmissionEnds
  unfold State.sendingRestart at h
  split at h
  next f hport =>
    rw [hport]
    exact if_pos h
  next => cases h

/-- R8: the Ring Port after a Restart, its kept buffer's head started. -/
theorem State.restarted_arbitrate_rp (s : State) : s.restarted.arbitrate.rp = match s.rp.buffer with
    | [] => RingPort.initial s.rp.strap
    | f :: rest => { RingPort.initial s.rp.strap with port := .forwarding f, buffer := rest } := by
  rw [State.arbitrate_rp_idle (s := s.restarted) rfl]
  cases h : s.rp.buffer with
  | nil =>
    have hbuffer : s.restarted.rp.buffer = [] := h
    rw [hbuffer, State.restarted, RingPort.restarted, h]
    rfl
  | cons f rest =>
    have hbuffer : s.restarted.rp.buffer = f :: rest := h
    rw [hbuffer]
    rfl

theorem restartedTurnTimer_eq (hot : Bool) (active : Option Bank) : restartedTurnTimer hot active =
    if hot then
      match active with
      | none => .idle
      | some b => .paused (b.dc.g1.turnInterval * 1000000)
    else .idle := by
  cases hot <;> cases active <;> rfl

/-- Settles O53: the tests of R179 in their order, and block by block what R180 keeps. -/
theorem restartTaken : Obligations.RestartTaken := by
  intro s
  refine ⟨fun a tag htake => ?request, fun h => ?without, fun h c hc => ?effect⟩
  case request =>
    have hrefused : ∀ {code}, requestRestart a (s.taking a tag) = (s.taking a tag, some (code, [])) →
        exec (.restart a.addr tag) s = .next (s.answered a 28 tag code []) :=
      exec_request_refused (act := requestRestart a) rfl rfl (Nat.zero_le _) htake
    exact ⟨fun hl => hrefused (if_pos hl), fun hl hbarred => hrefused (requestRestart_of_barred hl hbarred),
      fun hl hfree => hrefused (requestRestart_of_free hl hfree)⟩
  case without => exact congrArg Host.Outcome.next (if_neg (by simp [h]))
  case effect =>
    have hends := State.transmissionEnds_of_restart h
    have hexec : exec c s = .next s.restarted.arbitrate := by
      simp only [List.mem_cons, List.not_mem_nil, or_false] at hc
      rcases hc with rfl | rfl
      · exact congrArg Host.Outcome.next hends
      · exact congrArg Host.Outcome.next ((if_pos h).trans hends)
    have heq := State.arbitrate_eq s.restarted
    refine ⟨_, hexec, ?_, State.restarted_arbitrate_rp s, ?_, ?_, ?_⟩
    · rw [heq]
      rfl
    · rw [heq]
      rfl
    · rw [heq]
      exact congrArg (fun x => { Sequencer.initial with
        hot := s.seq.hot, turnDue := s.seq.turnDue, overdue := s.seq.overdue, turnTimer := x })
        (restartedTurnTimer_eq s.seq.hot s.sched.active)
    · have hrecorder : s.restarted.arbitrate.recorder = s.recorder.retained := by
        rw [heq]
        rfl
      rw [hrecorder]
      exact ⟨rfl, rfl, rfl, rfl, rfl, fun k => Recorder.retained_slots s.recorder k⟩

/-! ## Power-on and hardware reset (R181, R196) -/

/-- Settles O54: a hardware reset is a power-on with BKUP_GOOD high, and only the Recorder keeps anything. -/
theorem resetsTaken : Obligations.ResetsTaken := by
  intro s straps good c hc
  have hexec : exec c s = .next (s.poweredOn straps good) := by
    rcases hc with rfl | ⟨rfl, rfl⟩ <;> rfl
  refine ⟨_, hexec, rfl, rfl, rfl, rfl, rfl, rfl, ?_, ?_⟩
  · simp [State.forwardingOnly, State.poweredOn, State.initial, RingPort.initial]
  · cases good with
    | true => exact ⟨rfl, rfl, rfl, rfl, rfl, fun k => Recorder.retained_slots s.recorder k⟩
    | false => exact ⟨rfl, rfl, rfl, rfl, rfl, fun k => Recorder.initial_slots k⟩

end Sys2Proof.Machine
end

section
/-! PROOF. Run control, the hot-stop schedule and the auxiliary drive (R19, R64, R67, R115 to R133, R175). -/

namespace Sys2Proof.Machine

variable {s : State} {a : Asker}

/-! ## Requests whose answer rests on the state they leave -/

/-- R173: a request that a manager may send now is carried out by its owning rule and its response formed. -/
theorem exec_request_responds {c : Instr} {kind tag : Word} {args : List Word} {act : State → Answered} {u : State}
    {r : ResultCode × List Word} (hc : requestOf c = some (a.addr, kind :: tag :: args))
    (hd : ownerDecides a kind.toNat args = some act) (hn : args.length ≤ 62) (h : s.takesFrom a)
    (ha : act (s.taking a tag) = (u, some r)) : exec c s = .next (u.respond a kind tag .answer r) := by
  have htake : s.takeRequest a kind tag args = u.respond a kind tag .answer r := by
    unfold State.takeRequest
    simp only [hd]
    rw [show s.setHolder a.manager ⟨.answering, a.addr, tag⟩ = s.taking a tag from rfl, ha]
  rw [exec_request hc, s.commandArrives_takes h kind tag hn, htake]

section
variable {allowed : Bool} {act : State → Answered}

theorem runControl_of_stranger (h : a.manager ≠ .driveMaster) : runControl a allowed act s = refuse .refusedAccess s :=
  if_pos h

theorem runControl_of_allowed (h : a.manager = .driveMaster) (hok : allowed = true) : runControl a allowed act s = act s :=
  (if_neg (not_not.2 h)).trans (if_pos hok)

theorem runControl_of_barred (h : a.manager = .driveMaster) (hno : allowed = false) :
    runControl a allowed act s = refuse .refusedState s :=
  (if_neg (not_not.2 h)).trans (if_neg (by simp [hno]))

end

/-- R116: with the new state still in force the response reports it. -/
theorem answerNewState_of_eq {d : DriveState} (h : s.seq.drive = d) : answerNewState d s = answerDone [wordOfNat d.code] s :=
  if_pos h

/-- R116: an answer that reports a state changes nothing but the draws. -/
theorem answerNewState_eq (d : DriveState) (s : State) : ∃ n r, answerNewState d s = ({ s with draws := n }, some r) := by
  unfold answerNewState
  split
  · exact ⟨_, _, rfl⟩
  · exact ⟨_, _, rfl⟩

/-! ## Parts of a change of state -/

/-- R125: the turn timer counts in READY and AUXILIARY. -/
theorem TurnTimer.follow_counts {d : DriveState} (hd : d = .ready ∨ d = .auxiliary) (t : TurnTimer) :
    t.follow d = match t with
      | .paused us => .counting us
      | x => x := by
  rcases hd with rfl | rfl <;> cases t <;> rfl

/-- R125: the turn timer pauses in the other states. -/
theorem TurnTimer.follow_pauses {d : DriveState} (h1 : d ≠ .ready) (h2 : d ≠ .auxiliary) (t : TurnTimer) :
    t.follow d = match t with
      | .counting us => .paused us
      | x => x := by
  cases d
  case ready => exact absurd rfl h1
  case auxiliary => exact absurd rfl h2
  all_goals cases t <;> rfl

theorem State.raiseMarkLoss_of_clear (h : s.intake.markLoss = false) : s.raiseMarkLoss = s := if_neg (by simp [h])

/-- R19: entry to a state that a trip can leave, with mark loss standing, trips. -/
theorem State.raiseMarkLoss_trips (h : s.intake.markLoss = true) (h1 : s.seq.drive ≠ .blocked) (h2 : s.seq.drive ≠ .tripped) :
    s.raiseMarkLoss.seq.drive = .tripped ∧ s.raiseMarkLoss.tru.first = some ⟨.cycleLost, .nobody, 0⟩ ∧
      s.raiseMarkLoss.lim.breakaway = none := by
  have hclass : s.classOf .cycleLost = .trip := rfl
  obtain ⟨hdrive, htru, hbreakaway, -, -⟩ := s.raiseCause_tripped hclass h1 h2 .nobody 0
  rw [show s.raiseMarkLoss = s.raiseCause .cycleLost .nobody 0 from if_pos h]
  exact ⟨hdrive, by rw [htru]; rfl, hbreakaway⟩

/-- R131: a pending takeover declined. -/
theorem State.declinePending_seq (n : Nat) (s : State) : s.declinePending n = { s with seq := { s.seq with
    pendingTakeover := false
    outgoing := match s.seq.pendingTakeover, s.auxAddr with
      | true, some dest => some (makeFrame dest s.rp.strap kindDecline s.cycleTag [wordOfNat n])
      | _, _ => s.seq.outgoing } } := by
  unfold State.declinePending State.produceDecline State.produceAux
  cases hpending : s.seq.pendingTakeover with
  | false =>
    rw [if_neg nofun]
    exact congrArg (fun x => { s with seq := { s.seq with pendingTakeover := x } }) hpending
  | true =>
    rw [if_pos rfl]
    have haux : ({ s with seq := { s.seq with pendingTakeover := false } } : State).auxAddr = s.auxAddr := rfl
    rw [haux]
    cases s.auxAddr <;> rfl

/-- R64: the allowance of a start at this latched speed. -/
def Limiter.allowanceAt (b : Bank) (speed : Int) (l : Limiter) : Limiter :=
  if speed.natAbs ≤ b.dc.g1.standstillSpeed then { l with breakaway := some b.dc.g0.breakawayCycles, outcome := .none } else l

theorem State.startBreakaway_of_bank {b : Bank} (hb : s.sched.active = some b) :
    s.startBreakaway = { s with lim := s.lim.allowanceAt b s.intake.speed.speed } := by
  simp only [State.startBreakaway, hb, Limiter.allowanceAt]
  split <;> rfl

theorem State.abandonBreakaway_lim (s : State) : s.abandonBreakaway = { s with lim := { s.lim with
    breakaway := none
    outcome := if s.lim.breakaway = none then s.lim.outcome else .abandoned } } := by
  unfold State.abandonBreakaway
  cases h : s.lim.breakaway with
  | none =>
    rw [if_pos rfl]
    exact congrArg (fun x => { s with lim := { s.lim with breakaway := x } }) h
  | some n => rfl

/-! ## Enable, Disable and Stop (R116, R119) -/

theorem State.enterStopping_eq (s : State) : s.enterStopping = { s with
    seq := { s.seq with drive := .stopping, stopCount := 0, turnTimer := s.seq.turnTimer.follow .stopping }
    lim := { s.lim with
      breakaway := none
      outcome := if s.lim.breakaway = none then s.lim.outcome else .abandoned } } :=
  State.abandonBreakaway_lim _

/-- Settles O36: the asker, the state and the flags are judged in turn, and the turn timer follows the new state. -/
theorem enableDisableStop : Obligations.EnableDisableStop := by
  intro s a tag htake
  have henable : ∀ {code ws} (v : State), requestEnable a (s.taking a tag) = (v.taking a tag, some (code, ws)) →
      v.rqh = s.rqh → exec (.enable a.addr tag) s = .next (v.answered a 4 tag code ws) :=
    exec_request_answered (act := requestEnable a) rfl rfl (Nat.zero_le _) htake
  have hdisable : ∀ {code ws} (v : State), requestDisable a (s.taking a tag) = (v.taking a tag, some (code, ws)) →
      v.rqh = s.rqh → exec (.disable a.addr tag) s = .next (v.answered a 5 tag code ws) :=
    exec_request_answered (act := requestDisable a) rfl rfl (Nat.zero_le _) htake
  have hstop : ∀ {code ws} (v : State), requestStop a (s.taking a tag) = (v.taking a tag, some (code, ws)) →
      v.rqh = s.rqh → exec (.stop a.addr tag) s = .next (v.answered a 8 tag code ws) :=
    exec_request_answered (act := requestStop a) rfl rfl (Nat.zero_le _) htake
  refine ⟨fun hm => ⟨henable s (runControl_of_stranger hm) rfl, hdisable s (runControl_of_stranger hm) rfl,
      exec_request_refused (act := requestStartRun a) rfl rfl (Nat.zero_le _) htake (runControl_of_stranger hm),
      exec_request_refused (act := requestStartTurning a) rfl rfl (Nat.zero_le _) htake (runControl_of_stranger hm),
      hstop s (runControl_of_stranger hm) rfl⟩,
    fun hm => ⟨fun hbar => henable s (runControl_of_barred hm ?_) rfl, fun hdrive hbank htrip => ?_,
      fun hdrive => hdisable s (runControl_of_barred hm ?_) rfl, fun hdrive => ?_,
      fun hrun hturn => hstop s (runControl_of_barred hm ?_) rfl, fun hdrive hloss => ?_⟩⟩
  · change (s.seq.drive == .blocked && s.sched.active.isSome && !s.tru.declared) = false
    rcases hbar with h | h | h <;> simp [h]
  · have hok : (s.seq.drive == .blocked && s.sched.active.isSome && !s.tru.declared) = true := by
      simp [hdrive, Option.isSome_iff_ne_none.2 hbank, htrip]
    have h := henable { s with seq := { s.seq with drive := .ready, turnTimer := s.seq.turnTimer.follow .ready } }
      ((runControl_of_allowed hm hok).trans (answerNewState_of_eq rfl)) rfl
    rw [TurnTimer.follow_counts (.inl rfl)] at h
    exact h
  · exact beq_eq_false_iff_ne.2 hdrive
  · have h := hdisable { s with seq := { s.seq with drive := .blocked, turnTimer := s.seq.turnTimer.follow .blocked } }
      ((runControl_of_allowed hm (beq_iff_eq.2 hdrive)).trans (answerNewState_of_eq rfl)) rfl
    rw [TurnTimer.follow_pauses (d := .blocked) nofun nofun] at h
    exact h
  · change (s.seq.drive == .running || s.seq.drive == .turning) = false
    simp [hrun, hturn]
  · have hok : (s.seq.drive == .running || s.seq.drive == .turning) = true := by
      rw [Bool.or_eq_true, beq_iff_eq, beq_iff_eq]
      exact hdrive
    have hloss' : (s.taking a tag).enterStopping.intake.markLoss = false := by rw [State.enterStopping_eq]; exact hloss
    have hanswer : requestStop a (s.taking a tag) = answerNewState .stopping (s.taking a tag).enterStopping :=
      (runControl_of_allowed hm hok).trans (congrArg _ (State.raiseMarkLoss_of_clear hloss'))
    rw [State.enterStopping_eq, TurnTimer.follow_pauses (d := .stopping) nofun nofun] at hanswer
    exact hstop { s with seq := _, lim := _ } (hanswer.trans (answerNewState_of_eq rfl)) rfl

/-! ## Start Run and Start Turning (R117, R118) -/

/-- R117: a Start Run from READY, with no takeover pending. -/
theorem State.startRun_of_ready {b : Bank} (hb : s.sched.active = some b) (hloss : s.intake.markLoss = false)
    (hdrive : s.seq.drive = .ready) (hpending : s.seq.pendingTakeover = false) : s.startRun = { s with
      split := s.split.started
      lim := s.lim.started.allowanceAt b s.intake.speed.speed
      reg := ⟨s.reg.a.started, s.reg.b.started⟩
      seq := { s.seq with
        drive := .running, turnTimer := s.seq.turnTimer.follow .running, turnComplete := false, stopCount := 0 } } := by
  unfold State.startRun
  simp only [if_pos hdrive]
  rw [State.startBreakaway_of_bank (b := b) ?bank, State.declinePending,
    if_neg (by simp [State.informEntry, State.setDrive, hpending])]
  · exact State.raiseMarkLoss_of_clear hloss
  case bank => exact hb

/-- R117, R131: a Start Run from STOPPING. -/
theorem State.startRun_of_stopping {b : Bank} (hb : s.sched.active = some b) (hloss : s.intake.markLoss = false)
    (hdrive : s.seq.drive = .stopping) : s.startRun = { s with
      lim := s.lim.allowanceAt b s.intake.speed.speed
      seq := { s.seq with
        drive := .running, turnTimer := s.seq.turnTimer.follow .running, turnComplete := false, stopCount := 0
        pendingTakeover := false
        outgoing := match s.seq.pendingTakeover, s.auxAddr with
          | true, some dest => some (makeFrame dest s.rp.strap kindDecline s.cycleTag [2])
          | _, _ => s.seq.outgoing } } := by
  unfold State.startRun
  simp only [if_neg (show ¬ s.seq.drive = .ready by rw [hdrive]; exact nofun)]
  rw [State.startBreakaway_of_bank (b := b) ?bank, State.declinePending_seq]
  · exact State.raiseMarkLoss_of_clear hloss
  case bank => exact hb

/-- R118: a Start Turning. -/
theorem State.startTurning_eq {b : Bank} (hb : s.sched.active = some b) (hloss : s.intake.markLoss = false) :
    s.startTurning = { s with
      split := s.split.started
      lim := s.lim.started.allowanceAt b s.intake.speed.speed
      reg := ⟨s.reg.a.started, s.reg.b.started⟩
      seq := { s.seq with
        drive := .turning, turnTimer := s.seq.turnTimer.follow .turning, advance := 0, turnComplete := false } } := by
  unfold State.startTurning
  dsimp only
  rw [State.startBreakaway_of_bank (b := b) ?bank]
  · exact State.raiseMarkLoss_of_clear hloss
  case bank => exact hb

/-- R116: the states in which a Start Run is taken. -/
theorem mayStartRun_iff : (s.seq.drive == .ready || s.seq.drive == .stopping) = true ↔
    s.seq.drive = .ready ∨ s.seq.drive = .stopping := by
  rw [Bool.or_eq_true, beq_iff_eq, beq_iff_eq]

theorem requestStartRun_taken (hm : a.manager = .driveMaster) (h : s.seq.drive = .ready ∨ s.seq.drive = .stopping) :
    requestStartRun a s = answerNewState .running s.startRun := runControl_of_allowed hm (mayStartRun_iff.2 h)

theorem requestStartTurning_taken (hm : a.manager = .driveMaster) (h : s.seq.drive = .ready) :
    requestStartTurning a s = answerNewState .turning s.startTurning := runControl_of_allowed hm (beq_iff_eq.2 h)

/-- Settles O37: the entry written out block by block, for either start and for either state it leaves. -/
theorem startsTaken : Obligations.StartsTaken := by
  intro s a tag b htake hm hb hloss
  have hrun : ∀ {code ws} (v : State), requestStartRun a (s.taking a tag) = (v.taking a tag, some (code, ws)) →
      v.rqh = s.rqh → exec (.startRun a.addr tag) s = .next (v.answered a 6 tag code ws) :=
    exec_request_answered (act := requestStartRun a) rfl rfl (Nat.zero_le _) htake
  have hturn : ∀ {code ws} (v : State), requestStartTurning a (s.taking a tag) = (v.taking a tag, some (code, ws)) →
      v.rqh = s.rqh → exec (.startTurning a.addr tag) s = .next (v.answered a 7 tag code ws) :=
    exec_request_answered (act := requestStartTurning a) rfl rfl (Nat.zero_le _) htake
  refine ⟨fun hdrive hpending => ⟨?_, ?_⟩, fun hdrive => ?_,
    fun hdrive => hturn s (runControl_of_barred hm (beq_eq_false_iff_ne.2 hdrive)) rfl,
    fun h1 h2 => hrun s (runControl_of_barred hm ?_) rfl⟩
  · have hanswer := requestStartRun_taken (s := s.taking a tag) hm (.inl hdrive)
    rw [State.startRun_of_ready (s := s.taking a tag) (b := b) hb hloss hdrive hpending,
      TurnTimer.follow_pauses (d := .running) nofun nofun] at hanswer
    exact hrun { s with split := _, lim := _, reg := _, seq := _ } (hanswer.trans (answerNewState_of_eq rfl)) rfl
  · have hanswer := requestStartTurning_taken (s := s.taking a tag) hm hdrive
    rw [State.startTurning_eq (s := s.taking a tag) (b := b) hb hloss, TurnTimer.follow_pauses (d := .turning) nofun nofun] at hanswer
    exact hturn { s with split := _, lim := _, reg := _, seq := _ } (hanswer.trans (answerNewState_of_eq rfl)) rfl
  · have hanswer := requestStartRun_taken (s := s.taking a tag) hm (.inr hdrive)
    rw [State.startRun_of_stopping (s := s.taking a tag) (b := b) hb hloss hdrive,
      TurnTimer.follow_pauses (d := .running) nofun nofun] at hanswer
    exact hrun { s with lim := _, seq := _ } (hanswer.trans (answerNewState_of_eq rfl)) rfl
  · rw [← Bool.not_eq_true]
    exact mt mayStartRun_iff.1 (not_or.2 ⟨h1, h2⟩)

/-! ## Entry with mark loss standing (R19) -/

/-- R19: an entry to a running state, with mark loss standing, answered. -/
theorem exec_entry_trips {c : Instr} {kind tag : Word} {act : State → Answered} {d : DriveState} {e : State}
    (hc : requestOf c = some (a.addr, [kind, tag])) (hd : ownerDecides a kind.toNat [] = some act) (h : s.takesFrom a)
    (ha : act (s.taking a tag) = answerNewState d e.raiseMarkLoss) (hloss : e.intake.markLoss = true)
    (h1 : e.seq.drive ≠ .blocked) (h2 : e.seq.drive ≠ .tripped) :
    ∃ t, exec c s = .next t ∧ t.seq.drive = .tripped ∧ t.tru.first = some ⟨.cycleLost, .nobody, 0⟩ ∧
      t.lim.breakaway = none := by
  obtain ⟨n, r, hanswer⟩ := answerNewState_eq d e.raiseMarkLoss
  exact ⟨_, exec_request_responds hc hd (Nat.zero_le _) h (ha.trans hanswer), State.raiseMarkLoss_trips hloss h1 h2⟩

/-- R117: Start Run up to the raise of CYCLE_LOST is in RUNNING, the Intake as it was. -/
theorem State.startRun_entry (s : State) : ∃ e : State, s.startRun = e.raiseMarkLoss ∧ e.intake = s.intake ∧
    e.seq.drive = .running := by
  refine ⟨_, rfl, ?_, ?_⟩
  · rw [State.declinePending_intake, State.startBreakaway_eq]
    dsimp only
    split <;> rfl
  · rw [State.declinePending_drive, State.startBreakaway_eq]
    dsimp only
    split <;> rfl

theorem State.startTurning_entry (s : State) : ∃ e : State, s.startTurning = e.raiseMarkLoss ∧ e.intake = s.intake ∧
    e.seq.drive = .turning := by
  refine ⟨_, rfl, ?_, ?_⟩ <;> rw [State.startBreakaway_eq] <;> rfl

/-- Settles O24: each entry ends with the raise of CYCLE_LOST, which a mark loss standing makes a declared trip. -/
theorem markLossTripsEntry : Obligations.MarkLossTripsEntry := by
  intro s a tag htake hm hloss c hc
  rcases hc with ⟨rfl, hdrive⟩ | ⟨rfl, hdrive⟩ | ⟨rfl, hdrive⟩
  · obtain ⟨e, he, hintake, hentered⟩ := (s.taking a tag).startRun_entry
    have hanswer := requestStartRun_taken (s := s.taking a tag) hm hdrive
    rw [he] at hanswer
    exact exec_entry_trips (act := requestStartRun a) rfl rfl htake hanswer (by rw [hintake]; exact hloss)
      (by rw [hentered]; exact nofun) (by rw [hentered]; exact nofun)
  · obtain ⟨e, he, hintake, hentered⟩ := (s.taking a tag).startTurning_entry
    have hanswer := requestStartTurning_taken (s := s.taking a tag) hm hdrive
    rw [he] at hanswer
    exact exec_entry_trips (act := requestStartTurning a) rfl rfl htake hanswer (by rw [hintake]; exact hloss)
      (by rw [hentered]; exact nofun) (by rw [hentered]; exact nofun)
  · have hok : (s.seq.drive == .running || s.seq.drive == .turning) = true := by
      rw [Bool.or_eq_true, beq_iff_eq, beq_iff_eq]
      exact hdrive
    have hentered := State.enterStopping_eq (s.taking a tag)
    exact exec_entry_trips (act := requestStop a) rfl rfl htake (runControl_of_allowed hm hok)
      (by rw [hentered]; exact hloss) (by rw [hentered]; exact nofun) (by rw [hentered]; exact nofun)

/-! ## The hot-stop schedule (R124 to R128) -/

theorem TurnTimer.follow_counting (us : Nat) (d : DriveState) : (TurnTimer.counting us).follow d =
    if d = .ready ∨ d = .auxiliary then .counting us else .paused us := by
  cases d <;> rfl

/-- R127: a turn becomes due with a bank active. -/
theorem State.makeTurnDue_eq (s : State) : s.makeTurnDue = State.raiseAttention
    ⟨.turnDue, 0, .nobody, signedDetail s.seq.movement⟩ { s with seq := { s.seq with
      turnDue := true
      overdue := match s.seq.overdue, s.sched.active with
        | .stopped, some b => .counting (b.dc.g1.turnOverdue * 1000000)
        | x, _ => x } } := by
  unfold State.makeTurnDue State.startOverdue
  rw [State.raiseAttention_seq, State.raiseAttention_sched]
  cases hoverdue : s.seq.overdue <;> cases hactive : s.sched.active <;> simp only [hoverdue, hactive] <;> rfl

/-- Settles O39: the flag and the bank decide, and the timer reloaded follows the state. -/
theorem hotStopRequests : Obligations.HotStopRequests := by
  intro s a tag htake
  have hset : ∀ {code ws} (v : State), requestSetHot (s.taking a tag) = (v.taking a tag, some (code, ws)) →
      v.rqh = s.rqh → exec (.setHotStop a.addr tag) s = .next (v.answered a 11 tag code ws) :=
    exec_request_answered (act := requestSetHot) rfl rfl (Nat.zero_le _) htake
  have hactive : (s.taking a tag).sched.active = s.sched.active := rfl
  have hhot : (s.taking a tag).seq.hot = s.seq.hot := rfl
  refine ⟨fun hnone => hset s ?_ rfl, fun b hb => ⟨fun h => hset s ?_ rfl, fun h => ?_⟩,
    exec_request_answered (act := requestClearHot) rfl rfl (Nat.zero_le _) htake _ rfl rfl⟩
  · simp only [requestSetHot, hactive, hnone] <;> rfl
  · simp only [requestSetHot, hactive, hb, hhot, h, if_true] <;> rfl
  · rw [← TurnTimer.follow_counting]
    refine hset { s with seq := { s.seq with
      hot := true, movement := 0, turnTimer := (TurnTimer.counting (seconds b.dc.g1.turnInterval)).follow s.seq.drive } } ?_ rfl
    simp only [requestSetHot, hactive, hb, hhot, h, Bool.false_eq_true, if_false] <;> rfl

/-! ## The auxiliary drive (R129 to R134) -/

/-- R129: with an AUX entry active the frame takes the outgoing place. -/
theorem State.produceAux_of_addr {dest : Addr} (h : s.auxAddr = some dest) (kind : Nat) (payload : List Word) :
    s.produceAux kind payload = { s with seq := { s.seq with
      outgoing := some (makeFrame dest s.rp.strap kind s.cycleTag payload) } } := by
  simp only [State.produceAux, h] <;> rfl

theorem State.loadRecallTimer_of_bank {b : Bank} (h : s.sched.active = some b) : s.loadRecallTimer =
    { s with seq := { s.seq with recallTimer := .counting (b.dc.g1.recallTimeout * 1000000) } } := by
  simp only [State.loadRecallTimer, h] <;> rfl

theorem State.turnTimerExpires_of_ready {us : Nat} (h : s.seq.turnTimer = .counting us) (hdrive : s.seq.drive = .ready) :
    s.turnTimerExpires = State.makeTurnDue { s with seq := { s.seq with turnTimer := .expired } } := by
  simp only [State.turnTimerExpires, h]
  split
  next => rfl
  next hother => cases hdrive.symm.trans hother
  next hother _ => exact absurd hdrive hother

theorem State.turnTimerExpires_of_auxiliary {us : Nat} (h : s.seq.turnTimer = .counting us) (hdrive : s.seq.drive = .auxiliary) :
    s.turnTimerExpires = State.recallGear { s with seq := { s.seq with turnTimer := .expired } } := by
  simp only [State.turnTimerExpires, h]
  split
  next hother => cases hdrive.symm.trans hother
  next => rfl
  next _ hother => exact absurd hdrive hother

/-- Settles O40: each expiry by its timer, and the turn timer's by the drive state and the grant. -/
theorem hotStopTimersExpire : Obligations.HotStopTimersExpire := by
  intro s b us hb
  refine ⟨fun htimer => ⟨fun hdrive => ?ready, fun hdrive hgrant dest haux => ?recalls, fun hdrive hgrant dest haux => ?again⟩,
    fun htimer => ?overdue, fun htimer => ?stuck⟩
  case ready =>
    have hexpires := State.turnTimerExpires_of_ready htimer hdrive
    rw [State.makeTurnDue_eq] at hexpires
    refine congrArg Host.Outcome.next (hexpires.trans ?_)
    simp only [hb]
    cases s.seq.overdue <;> rfl
  case recalls =>
    have hexpires := State.turnTimerExpires_of_auxiliary htimer hdrive
    refine congrArg Host.Outcome.next (hexpires.trans ?_)
    simp only [State.recallGear, hgrant, State.produceRecall]
    rw [State.produceAux_of_addr (dest := dest) ?addr, State.loadRecallTimer_of_bank (b := b) ?bank]
    case addr => exact haux
    case bank => exact hb
    rfl
  case again =>
    have hexpires := State.turnTimerExpires_of_auxiliary htimer hdrive
    refine congrArg Host.Outcome.next (hexpires.trans ?_)
    simp only [State.recallGear, hgrant, State.produceRecall]
    rw [State.produceAux_of_addr (dest := dest) ?addr]
    case addr => exact haux
    rfl
  case overdue =>
    have hexpires : s.overdueTimerExpires = State.raiseAttention ⟨.turnOverdue, 0, .nobody, signedDetail s.seq.movement⟩
        { s with seq := { s.seq with overdue := .expired } } := by
      simp only [State.overdueTimerExpires, htimer]
    exact congrArg Host.Outcome.next hexpires
  case stuck =>
    have hexpires : s.recallTimerExpires = (State.raiseAttention ⟨.auxStuck, 0, .nobody, bumpBy 255 1 s.seq.recallCount⟩
        { s with seq := { s.seq with recallCount := bumpBy 255 1 s.seq.recallCount } }).loadRecallTimer := by
      simp only [State.recallTimerExpires, htimer]
    refine congrArg Host.Outcome.next (hexpires.trans ?_)
    rw [State.loadRecallTimer_of_bank (b := b) ?bank]
    case bank => exact hb
    rfl

section
variable {f : RawFrame}

/-- R2, R10: a takeover frame from the AUX address reaches the Drive Sequencer. -/
theorem exec_takeover (h : s.hearsAux f) (hkind : f.kindCode = kindTakeover) : exec (.takeover f) s = .next s.takeTakeover := by
  have hconsume : s.consume f = s.takeTakeover := by
    rw [State.consume, if_neg (by rw [hkind]; decide), if_pos hkind, State.passAux, if_pos h.2.2.2.2]
  exact congrArg Host.Outcome.next ((s.receiveFrame_hearsAux h).trans hconsume)

theorem exec_returnFrame (h : s.hearsAux f) (hkind : f.kindCode = kindReturn) :
    exec (.returnFrame f) s = .next s.takeReturn := by
  have hconsume : s.consume f = s.takeReturn := by
    rw [State.consume, if_neg (by rw [hkind]; decide), if_neg (by rw [hkind]; decide), if_pos hkind, State.passAux,
      if_pos h.2.2.2.2]
  exact congrArg Host.Outcome.next ((s.receiveFrame_hearsAux h).trans hconsume)

/-- R133: the grant ends in AUXILIARY. -/
theorem State.takeBack_of_auxiliary (h : s.seq.drive = .auxiliary) : s.takeBack = { s with seq := { s.seq with
    drive := .ready, grant := .none, recallTimer := .stopped, turnTimer := s.seq.turnTimer.follow .ready } } := if_pos h

theorem State.takeBack_of_tripped (h : s.seq.drive = .tripped) : s.takeBack = { s with seq := { s.seq with
    grant := .none, recallTimer := .stopped } } := if_neg (by rw [h]; exact nofun)

theorem State.takeBack_hot (s : State) : s.takeBack.seq.hot = s.seq.hot := by
  unfold State.takeBack
  dsimp only
  split <;> rfl

theorem State.takeBack_expired_iff (s : State) : s.takeBack.seq.turnTimer = .expired ↔ s.seq.turnTimer = .expired := by
  unfold State.takeBack
  dsimp only
  split
  · rw [State.setDrive, TurnTimer.follow_counts (.inl rfl)]
    cases s.seq.turnTimer <;> simp
  · rfl

/-- R130: a takeover with grant NONE, by the drive state. -/
theorem State.takeTakeover_of_none (hrestart : s.restartPending = false) (hgrant : s.seq.grant = .none) : s.takeTakeover =
    match s.seq.drive with
    | .ready => s.judgeTakeover
    | .stopping => { s with seq := { s.seq with pendingTakeover := true } }
    | .running => s.produceDecline declineRunning
    | .turning => s.produceDecline declineTurning
    | .blocked => s.produceDecline declineBlocked
    | .tripped => s.produceDecline declineTripped
    | .auxiliary => s := by
  simp only [State.takeTakeover, hrestart, hgrant, Bool.false_eq_true, if_false] <;> rfl

end

/-- Settles O41: a takeover by the Restart, the grant and the drive state; a return by the grant, and what an answered recall makes
due. -/
theorem auxiliaryFrames : Obligations.AuxiliaryFrames := by
  intro s f h
  have haux := h.2.2.2.2
  have hanswers : ∀ {kind payload}, f.kindCode = kindTakeover → s.takeTakeover = s.produceAux kind payload →
      exec (.takeover f) s = .next { s with seq := { s.seq with
        outgoing := some (makeFrame f.source s.rp.strap kind s.cycleTag payload) } } := fun hkind htake =>
    (exec_takeover h hkind).trans (congrArg Host.Outcome.next (htake.trans (State.produceAux_of_addr haux _ _)))
  refine ⟨fun hkind hrestart => hanswers hkind (if_pos hrestart), fun hkind hrestart => ⟨fun hgrant => hanswers hkind ?_,
    fun hgrant => hanswers hkind ?_, fun hgrant => ?_⟩, fun hkind => ?_⟩
  · simp only [State.takeTakeover, hrestart, hgrant] <;> rfl
  · simp only [State.takeTakeover, hrestart, hgrant] <;> rfl
  · have htake := State.takeTakeover_of_none hrestart hgrant
    refine ⟨fun hdrive hdue => ?_, fun hdrive hdue => hanswers hkind ?_, fun hdrive => hanswers hkind ?_,
      fun hdrive => hanswers hkind ?_, fun hdrive => hanswers hkind ?_, fun hdrive => hanswers hkind ?_, fun hdrive => ?_⟩ <;>
      simp only [hdrive] at htake
    · have hjudge : s.judgeTakeover = State.produceAux kindHandover [] { s with seq := { s.seq with
          drive := .auxiliary, grant := .granted, turnTimer := s.seq.turnTimer.follow .auxiliary } } := if_neg (by simp [hdue])
      rw [State.produceAux_of_addr (s := { s with seq := { s.seq with
        drive := .auxiliary, grant := .granted, turnTimer := s.seq.turnTimer.follow .auxiliary } }) haux] at hjudge
      exact (exec_takeover h hkind).trans (congrArg Host.Outcome.next (htake.trans hjudge))
    · exact htake.trans (if_pos hdue)
    · exact htake
    · exact htake
    · exact htake
    · exact htake
    · exact (exec_takeover h hkind).trans (congrArg Host.Outcome.next (htake.trans
        (congrArg (fun d => { s with seq := { s.seq with pendingTakeover := true, drive := d } }) hdrive.symm)))
  · have hexec := exec_returnFrame h hkind
    refine ⟨fun hgrant => hexec.trans (congrArg Host.Outcome.next ?_), fun hgrant => ?_, fun hgrant hhot hexpired => ?_⟩
    · simp only [State.takeReturn, hgrant]
    · have htake : s.takeReturn = s.takeBack := by
        rcases hgrant with hgrant | ⟨hgrant, hno⟩
        · simp only [State.takeReturn, hgrant]
        · have hno' : ¬ (s.takeBack.seq.hot = true ∧ s.takeBack.seq.turnTimer = .expired) := by
            rw [State.takeBack_hot, State.takeBack_expired_iff]
            exact hno
          simp only [State.takeReturn, hgrant]
          exact if_neg hno'
      exact ⟨fun hdrive => hexec.trans (congrArg Host.Outcome.next (htake.trans (State.takeBack_of_auxiliary hdrive))),
        fun hdrive => hexec.trans (congrArg Host.Outcome.next (htake.trans (State.takeBack_of_tripped hdrive)))⟩
    · have hyes : s.takeBack.seq.hot = true ∧ s.takeBack.seq.turnTimer = .expired := by
        rw [State.takeBack_hot, State.takeBack_expired_iff]
        exact ⟨hhot, hexpired⟩
      have htake : s.takeReturn = s.takeBack.makeTurnDue := by
        simp only [State.takeReturn, hgrant]
        exact if_pos hyes
      rw [State.makeTurnDue_eq] at htake
      refine ⟨fun hdrive => ?_, fun hdrive => ?_⟩
      · rw [State.takeBack_of_auxiliary hdrive] at htake
        exact hexec.trans (congrArg Host.Outcome.next htake)
      · rw [State.takeBack_of_tripped hdrive] at htake
        exact hexec.trans (congrArg Host.Outcome.next htake)

end Sys2Proof.Machine
end

section
/-! PROOF. A declared trip block by block (R144), the raise table (R141 to R146), the Trip request, Acknowledge Trip, and the capture
that a trip starts (R147 to R149, R155 to R159). -/

namespace Sys2Proof.Machine

variable {s t : State} {a : Asker}

/-! ## The priority pair, by the Ring Port alone -/

theorem State.arbitrate_rp_congr (h : s.rp = t.rp) : s.arbitrate.rp = t.arbitrate.rp := by
  by_cases hport : s.rp.port = .idle
  · rw [State.arbitrate_rp_idle hport, State.arbitrate_rp_idle (h ▸ hport), h]
  · rw [State.arbitrate_busy hport, State.arbitrate_busy (h ▸ hport), h]

theorem State.joinPair_rp_congr (f : RawFrame) (h : s.rp = t.rp) : (s.joinPair f).rp = (t.joinPair f).rp := by
  have hforwarding : s.forwardingOnly = t.forwardingOnly := by simp only [State.forwardingOnly, h]
  unfold State.joinPair
  rw [hforwarding]
  split
  · exact h
  · exact State.arbitrate_rp_congr (by simp only [h])

/-- R6: a frame that joins the pair changes the Ring Port alone. -/
theorem State.joinPair_eq (f : RawFrame) (s : State) : s.joinPair f = { s with rp := (s.joinPair f).rp } := by
  unfold State.joinPair
  split
  · rfl
  · exact State.arbitrate_eq _

theorem State.produceDrive_eq (m : Motor) (enable : Bool) (u : Int) (field : Nat) (s : State) :
    s.produceDrive m enable u field = { s with rp := (s.produceDrive m enable u field).rp } := by
  unfold State.produceDrive
  split
  · rfl
  · exact State.joinPair_eq _ s

/-- R86 to R88: the converter's address is the source of its ARM entry. -/
theorem State.converter_eq (m : Motor) (s : State) : s.converter m = s.sched.active.bind fun b => b.armAddr m := by
  unfold State.converter
  cases s.sched.active <;> rfl

/-- R88: a block frame of motor `m`. -/
def State.blockJoin (u : State) (tag : Word) (field : Nat) (m : Motor) (s : State) : State :=
  match u.converter m with
  | none => s
  | some dest => s.joinPair (makeFrame dest u.rp.strap kindDrive tag [0, 0, BitVec.ofNat 16 field])

theorem State.blocksJoin_iff {u : State} {tag : Word} {field : Nat} {r : RingPort} : u.blocksJoin tag field r ↔
    r = (State.blockJoin u tag field .b (State.blockJoin u tag field .a u)).rp ∨
      r = (State.blockJoin u tag field .a (State.blockJoin u tag field .b u)).rp := Iff.rfl

theorem State.blockJoin_rp_congr (u : State) (tag : Word) (field : Nat) (m : Motor) (h : s.rp = t.rp) :
    (State.blockJoin u tag field m s).rp = (State.blockJoin u tag field m t).rp := by
  unfold State.blockJoin
  split
  · exact h
  · exact State.joinPair_rp_congr _ h

/-- R88: a block frame produced joins the pair as the bank, the strap and the tag of another state give it. -/
theorem State.produceDrive_rp {u : State} (hbank : s.sched.active = u.sched.active) (hstrap : s.rp.strap = u.rp.strap)
    (m : Motor) (field : Nat) :
    (s.produceDrive m false 0 field).rp = (State.blockJoin u s.cycleTag field m s).rp := by
  have haddr : (s.sched.active.bind fun b => b.armAddr m) = u.converter m := by rw [State.converter_eq, hbank]
  unfold State.produceDrive State.blockJoin
  rw [haddr, ← hstrap]
  cases u.converter m <;> rfl

theorem State.produceBlocks_eq (s : State) :
    s.produceBlocks = { s with draws := s.produceBlocks.draws, rp := s.produceBlocks.rp } := by
  unfold State.produceBlocks
  split
  · rfl
  · rcases inEitherOrder_cases (fun t => t.produceDrive .a false 0 s.blockField)
      (fun t => t.produceDrive .b false 0 s.blockField) s with e | e <;>
    · rw [e, State.produceDrive_eq, State.produceDrive_eq _ _ _ _ s.drawn]
      rfl

/-- R87, R88: the two block frames, in either order, on the Ring Port of any state with this bank and Ring Port. -/
theorem State.produceBlocks_joins {u : State} (hrp : s.rp = u.rp) (hbank : s.sched.active = u.sched.active) :
    u.blocksJoin s.cycleTag s.blockField s.produceBlocks.rp := by
  rw [State.blocksJoin_iff]
  have hpair : ∀ m n : Motor, ((s.drawn.produceDrive m false 0 s.blockField).produceDrive n false 0 s.blockField).rp =
      (State.blockJoin u s.cycleTag s.blockField n (State.blockJoin u s.cycleTag s.blockField m u)).rp := by
    intro m n
    have hstrap : (s.drawn.produceDrive m false 0 s.blockField).rp.strap = u.rp.strap := by
      rw [State.produceDrive_strap]
      exact congrArg _ hrp
    have hfirst : (s.drawn.produceDrive m false 0 s.blockField).rp = (State.blockJoin u s.cycleTag s.blockField m u).rp := by
      rw [State.produceDrive_rp (s := s.drawn) (u := u) hbank (congrArg RingPort.strap hrp)]
      exact State.blockJoin_rp_congr (s := s.drawn) _ _ _ _ hrp
    rw [State.produceDrive_rp (s := s.drawn.produceDrive m false 0 s.blockField) (u := u)
        (by rw [State.produceDrive_sched]; exact hbank) hstrap,
      State.blockJoin_rp_congr u _ _ n hfirst]
    have htag : (s.drawn.produceDrive m false 0 s.blockField).cycleTag = s.cycleTag := by
      simp only [State.cycleTag, State.produceDrive_intake]
      rfl
    rw [htag]
  cases hactive : s.sched.active with
  | none =>
    have hnone : ∀ m (x : State), State.blockJoin u s.cycleTag s.blockField m x = x := by
      intro m x
      simp only [State.blockJoin, State.converter_eq, ← hbank, hactive] <;> rfl
    have hblocks : s.produceBlocks = s := by simp only [State.produceBlocks, hactive]
    rw [hblocks, hnone, hnone]
    exact .inl hrp
  | some b =>
    have hblocks : s.produceBlocks = inEitherOrder (fun t => t.produceDrive .a false 0 s.blockField)
        (fun t => t.produceDrive .b false 0 s.blockField) s := by simp only [State.produceBlocks, hactive]
    rw [hblocks]
    rcases inEitherOrder_cases (fun t => t.produceDrive .a false 0 s.blockField)
      (fun t => t.produceDrive .b false 0 s.blockField) s with e | e <;> rw [e]
    · exact .inl (hpair .a .b)
    · exact .inr (hpair .b .a)

/-! ## A declaration, block by block (R144) -/

theorem State.leaveRunning_eq (s : State) : s.leaveRunning = { s with
    draws := s.produceBlocks.draws, rp := s.produceBlocks.rp, reg := ⟨s.reg.a.quiet, s.reg.b.quiet⟩ } := by
  unfold State.leaveRunning
  dsimp only
  rw [State.produceBlocks_eq]

theorem State.enterTripped_eq (s : State) : s.enterTripped = { s with seq := { s.seq with
    drive := .tripped
    turnTimer := s.seq.turnTimer.follow .tripped
    stopCount := 0
    pendingTakeover := false
    outgoing := match s.seq.pendingTakeover, s.auxAddr with
      | true, some dest => some (makeFrame dest s.rp.strap kindDecline s.cycleTag [5])
      | _, _ => s.seq.outgoing } } :=
  State.declinePending_seq _ _

/-- R34, R37: the requests as a pending activation ends. -/
theorem State.answerActivation_eq (r : ResultCode) (s : State) : s.answerActivation r = { s with
    sched := { s.sched with activation := none }, rqh := (s.answerActivation r).rqh } := by
  unfold State.answerActivation
  cases h : s.sched.activation with
  | none => exact congrArg (fun x => { s with sched := { s.sched with activation := x } }) h
  | some m => rfl

theorem State.answerActivation_rqh_congr (r : ResultCode) (hrqh : s.rqh = t.rqh)
    (hactivation : s.sched.activation = t.sched.activation) (hcycle : s.intake.cycle = t.intake.cycle) :
    (s.answerActivation r).rqh = (t.answerActivation r).rqh := by
  unfold State.answerActivation
  rw [hactivation]
  cases t.sched.activation with
  | none => exact hrqh
  | some m => simp only [hrqh, State.cycleTag, hcycle]

/-- R144: what a declaration leaves in each block but the Ring Port and the Reporter. -/
theorem State.declareTrip_eq (r : CauseRecord) (s : State) : s.declareTrip r = { s with
    draws := (s.declareTrip r).draws
    rp := if s.seq.drive.isRunning then (s.trippedWith r).produceBlocks.rp else s.rp
    tru := s.tru.declare r s.cycleTag
    recorder := (s.startCapture r).1
    seq := s.enterTripped.seq
    reg := if s.seq.drive.isRunning then ⟨s.reg.a.quiet, s.reg.b.quiet⟩ else s.reg
    lim := { s.lim with
      breakaway := none
      outcome := if s.lim.breakaway = none then s.lim.outcome else .abandoned }
    sched := { s.sched with pin := none, activation := none }
    rqh := (s.answerActivation .cancelled).rqh
    rpt := (s.declareTrip r).rpt } := by
  obtain ⟨n, rpt, hcases⟩ := s.declareTrip_cases r
  have htripped : s.trippedWith r = { s with
      tru := s.tru.declare r s.cycleTag, recorder := (s.startCapture r).1, seq := s.enterTripped.seq } := by
    rw [State.trippedWith, State.enterTripped_eq, State.enterTripped_eq s]
    rfl
  have hcore : s.declaredCore r = { s with
      draws := (s.declaredCore r).draws
      rp := if s.seq.drive.isRunning then (s.trippedWith r).produceBlocks.rp else s.rp
      tru := s.tru.declare r s.cycleTag
      recorder := (s.startCapture r).1
      seq := s.enterTripped.seq
      reg := if s.seq.drive.isRunning then ⟨s.reg.a.quiet, s.reg.b.quiet⟩ else s.reg
      lim := { s.lim with
        breakaway := none
        outcome := if s.lim.breakaway = none then s.lim.outcome else .abandoned }
      sched := { s.sched with pin := none, activation := none }
      rqh := (s.answerActivation .cancelled).rqh } := by
    have hend : ∀ x : State, x.rqh = s.rqh → x.sched = s.sched → x.intake = s.intake → x.lim = s.lim →
        (x.abandonBreakaway.endPin).answerActivation .cancelled = { x with
          lim := { s.lim with
            breakaway := none
            outcome := if s.lim.breakaway = none then s.lim.outcome else .abandoned }
          sched := { s.sched with pin := none, activation := none }
          rqh := (s.answerActivation .cancelled).rqh } := by
      intro x hrqh hsched hintake hlim
      have hcancelled : ((x.abandonBreakaway.endPin).answerActivation .cancelled).rqh = (s.answerActivation .cancelled).rqh := by
        rw [State.abandonBreakaway_lim]
        exact State.answerActivation_rqh_congr (s := State.endPin { x with lim := _ }) (t := s) .cancelled hrqh
          (show x.sched.activation = s.sched.activation by rw [hsched])
          (show x.intake.cycle = s.intake.cycle by rw [hintake])
      rw [State.answerActivation_eq, hcancelled, State.abandonBreakaway_lim, ← hlim, ← hsched]
      rfl
    unfold State.declaredCore
    dsimp only
    rw [show ({ s with tru := s.tru.declare r s.cycleTag, recorder := (s.startCapture r).1 } : State).enterTripped =
      s.trippedWith r from rfl]
    split
    · rw [State.leaveRunning_eq, hend _ (by rw [htripped]) (by rw [htripped]) (by rw [htripped]) (by rw [htripped]), htripped]
    · rw [hend _ (by rw [htripped]) (by rw [htripped]) (by rw [htripped]) (by rw [htripped]), htripped]
  rw [hcases, hcore]

/-! ## Raises at the Reporter -/

/-- R182, R187: what a raise reads outside the Reporter. -/
theorem State.raiseAttention_rpt_congr (x : Raise) (hrpt : s.rpt = t.rpt) (hactive : s.sched.active = t.sched.active)
    (hcycle : s.intake.cycle = t.intake.cycle) : (s.raiseAttention x).rpt = (t.raiseAttention x).rpt := by
  simp only [State.raiseAttention, State.flushReload, State.cycleTag, hrpt, hactive, hcycle]

theorem State.raiseAttention_set (x : Raise) (s : State) : (s.raiseAttention x).rpt.attention[x.kind.index] = true := by
  rw [State.raiseAttention_attention]
  exact Vector.getElem_set_self _

theorem State.raiseAttention_keeps {i : Fin 15} (x : Raise) (h : s.rpt.attention[i] = true) :
    (s.raiseAttention x).rpt.attention[i] = true := by
  rw [State.raiseAttention_attention]
  change (s.rpt.attention.set x.kind.index true)[i.val] = true
  rw [Vector.getElem_set]
  split
  · rfl
  · exact h

theorem State.raiseAll_keeps {i : Fin 15} (xs : List Raise) : ∀ {s : State}, s.rpt.attention[i] = true →
    (s.raiseAll xs).rpt.attention[i] = true := by
  induction xs with
  | nil => exact id
  | cons x xs ih => exact fun h => ih (State.raiseAttention_keeps x h)

theorem State.raiseAll_set {x : Raise} (xs : List Raise) : ∀ {s : State}, x ∈ xs →
    (s.raiseAll xs).rpt.attention[x.kind.index] = true := by
  induction xs with
  | nil => exact nofun
  | cons y xs ih =>
    intro s hx
    rcases List.mem_cons.1 hx with rfl | hx
    · exact State.raiseAll_keeps xs (s.raiseAttention_set x)
    · exact ih hx

/-- R144: a declaration raises TRIP and what the Recorder has to say. -/
theorem State.declareTrip_raises (r : CauseRecord) (s : State) {x : Raise} (hx : x = tripRaise r ∨ x ∈ (s.startCapture r).2) :
    (s.declareTrip r).rpt.attention[x.kind.index] = true := by
  unfold State.declareTrip
  split
  next hnone =>
    rw [hnone] at hx
    obtain rfl : x = tripRaise r := hx.resolve_right nofun
    exact State.raiseAttention_set _ _
  next y ys hsome =>
    rw [hsome] at hx
    rcases inEitherOrder_cases (State.raiseAttention (tripRaise r)) (State.raiseAll (y :: ys)) (s.declaredCore r) with e | e <;>
      rw [e] <;> rcases hx with rfl | hx
    · exact State.raiseAll_keeps _ (State.raiseAttention_set _ _)
    · exact State.raiseAll_set _ hx
    · exact State.raiseAttention_set _ _
    · exact State.raiseAttention_keeps _ (State.raiseAll_set _ hx)

/-! ## The capture in progress, and its end (R157 to R159) -/

/-- The first of a finite range with a property. -/
theorem find?_finRange_eq_some {n : Nat} {p : Fin n → Bool} {k : Fin n} (hk : p k = true) (hfirst : ∀ j < k, p j = false) :
    (List.finRange n).find? p = some k := by
  rw [List.find?_eq_some_iff_getElem]
  refine ⟨hk, k.val, by simp, by simp, fun j hj => ?_⟩
  simp only [List.getElem_finRange, Bool.not_eq_true']
  exact hfirst _ hj

theorem Recorder.capturing_first {r : Recorder} {k : Fin 8} (hk : r.slots[k].state = .capturing)
    (hfirst : ∀ j < k, r.slots[j].state ≠ .capturing) : r.capturing = some k :=
  find?_finRange_eq_some (by simpa using hk) fun j hj => beq_eq_false_iff_ne.2 (hfirst j hj)

theorem State.truncateCapture_of_none (h : ∀ k : Fin 8, s.recorder.slots[k].state ≠ .capturing) : s.truncateCapture = s := by
  simp only [State.truncateCapture, Recorder.capturing_none.2 h]

theorem State.truncateCapture_of_first {k : Fin 8} (hk : s.recorder.slots[k].state = .capturing)
    (hfirst : ∀ j < k, s.recorder.slots[j].state ≠ .capturing) : s.truncateCapture = State.raiseAttention (recordDoneRaise k)
      { s with recorder := s.recorder.setSlot k { s.recorder.slots[k] with state := .truncated } } := by
  simp only [State.truncateCapture, Recorder.capturing_first hk hfirst]

/-- R159: the end of a capture leaves every record header. -/
theorem State.truncateCapture_header (s : State) (j : Fin 8) :
    s.truncateCapture.recorder.slots[j].header = s.recorder.slots[j].header := by
  unfold State.truncateCapture
  split
  · rfl
  next k _ =>
    dsimp only
    rw [State.raiseAttention_recorder, Recorder.setSlot_slots]
    split
    next h => rw [h]
    next => rfl

/-- R159: of the lowest-numbered capture in progress, and no other, the state becomes TRUNCATED. -/
theorem State.truncateCapture_states {k : Fin 8} (hk : s.recorder.slots[k].state = .capturing)
    (hfirst : ∀ j < k, s.recorder.slots[j].state ≠ .capturing) :
    s.truncateCapture.recorder.slots[k].state = .truncated ∧
      s.truncateCapture.rpt.attention[Attention.recordDone.index] = true ∧
      ∀ j, j ≠ k → s.truncateCapture.recorder.slots[j].state = s.recorder.slots[j].state := by
  rw [State.truncateCapture_of_first hk hfirst]
  refine ⟨?_, State.raiseAttention_set _ _, fun j hj => ?_⟩
  · rw [State.raiseAttention_recorder, Recorder.setSlot_slots, if_pos rfl]
  · rw [State.raiseAttention_recorder, Recorder.setSlot_slots, if_neg (Ne.symm hj)]

theorem State.truncateCapture_keeps {i : Fin 15} (h : s.rpt.attention[i] = true) :
    s.truncateCapture.rpt.attention[i] = true := by
  unfold State.truncateCapture
  split
  · exact h
  · exact State.raiseAttention_keeps _ h

/-! ## Later causes (R146) -/

theorem TripUnit.known_iff (u : TripUnit) (c : Cause) :
    u.known c = true ↔ (∃ r, u.first = some r ∧ r.cause = c) ∨ ∃ age, (c, age) ∈ u.later := by
  unfold TripUnit.known
  cases u.first with
  | none => simp
  | some r => simp

theorem State.laterCause_of_known {r : CauseRecord} (h : s.tru.known r.cause = true) :
    s.laterCause r = s.cycleLostTruncates r.cause := if_pos h

/-- R146: the cause listed, in the Trip Unit and in the record header. -/
def State.withLater (r : CauseRecord) (s : State) : State :=
  State.recordLater r.cause s.tru.age { s with tru := { s.tru with later := s.tru.later ++ [(r.cause, s.tru.age)] } }

/-- R146: a cause listed with a free place, of a cause other than CYCLE_LOST or with no capture in progress. -/
theorem State.laterCause_of_place {r : CauseRecord} (h : ¬ s.tru.known r.cause = true) (hlen : s.tru.later.length < 4) :
    s.laterCause r = if r.cause = .cycleLost && (s.withLater r).recorder.capturing.isSome then
        inEitherOrder (State.raiseAttention (tripRaise r)) State.truncateCapture (s.withLater r)
      else (s.withLater r).raiseAttention (tripRaise r) :=
  (if_neg h).trans (if_pos hlen)

/-- R146, R159: a cause listed is raised, before or after the end of a capture or with none. -/
theorem State.laterCause_place_cases {r : CauseRecord} (h : ¬ s.tru.known r.cause = true) (hlen : s.tru.later.length < 4) :
    s.laterCause r = (s.withLater r).raiseAttention (tripRaise r) ∨
      s.laterCause r = ((s.withLater r).drawn.raiseAttention (tripRaise r)).truncateCapture ∨
      s.laterCause r = (s.withLater r).drawn.truncateCapture.raiseAttention (tripRaise r) := by
  rw [State.laterCause_of_place h hlen]
  split
  · exact .inr (inEitherOrder_cases ..)
  · exact .inl rfl

theorem State.laterCause_of_full {r : CauseRecord} (h : ¬ s.tru.known r.cause = true) (hlen : 4 ≤ s.tru.later.length) :
    s.laterCause r = (State.recordDropped (bumpBy 255 1 s.tru.dropped)
      { s with tru := { s.tru with dropped := bumpBy 255 1 s.tru.dropped } }).cycleLostTruncates r.cause :=
  (if_neg h).trans (if_neg (Nat.not_lt.2 hlen))

theorem State.withLater_tru (r : CauseRecord) (s : State) :
    (s.withLater r).tru = { s.tru with later := s.tru.later ++ [(r.cause, s.tru.age)] } :=
  State.recordLater_tru ..

theorem State.withLater_seq (r : CauseRecord) (s : State) : (s.withLater r).seq = s.seq := State.recordLater_seq ..

/-- R146, R158: the later cause joins the header of the trip's record, and no slot changes state. -/
theorem State.updateTripHeader_slots (g : Header → Header) (s : State) (k : Fin 8) :
    (s.updateTripHeader g).recorder.slots[k] =
      if s.recorder.currentSlot = some k ∧ s.recorder.slots[k].state ≠ .empty then
        { s.recorder.slots[k] with header := g s.recorder.slots[k].header }
      else s.recorder.slots[k] := by
  cases hcurrent : s.recorder.currentSlot with
  | none =>
    have hsame : s.updateTripHeader g = s := by simp only [State.updateTripHeader, hcurrent]
    rw [hsame, if_neg nofun]
  | some j =>
    by_cases hempty : s.recorder.slots[j].state = .empty
    · have hsame : s.updateTripHeader g = s := by simp only [State.updateTripHeader, hcurrent, if_pos hempty]
      rw [hsame, if_neg]
      rintro ⟨hj, hne⟩
      cases hj
      exact hne hempty
    · have hwritten : (s.updateTripHeader g).recorder =
          s.recorder.setSlot j { s.recorder.slots[j] with header := g s.recorder.slots[j].header } := by
        simp only [State.updateTripHeader, hcurrent, if_neg hempty]
      rw [hwritten, Recorder.setSlot_slots]
      by_cases hj : j = k
      · subst hj
        rw [if_pos rfl, if_pos ⟨rfl, hempty⟩]
      · rw [if_neg hj, if_neg fun h => hj (Option.some.inj h.1)]

theorem State.updateTripHeader_state (g : Header → Header) (s : State) (k : Fin 8) :
    (s.updateTripHeader g).recorder.slots[k].state = s.recorder.slots[k].state := by
  rw [State.updateTripHeader_slots]
  split <;> rfl

theorem State.withLater_listed (r : CauseRecord) {k : Fin 8} (hcurrent : s.recorder.currentSlot = some k)
    (hheld : s.recorder.slots[k].state ≠ .empty) :
    (s.withLater r).recorder.slots[k].header.later = s.recorder.slots[k].header.later ++ [(r.cause.code, s.tru.age)] := by
  unfold State.withLater State.recordLater
  rw [State.updateTripHeader_slots, if_pos ⟨hcurrent, hheld⟩]

/-- R146: what listing a cause does, whatever the order of its raise and of a capture's end. -/
theorem State.laterCause_listed {r : CauseRecord} (h : ¬ s.tru.known r.cause = true) (hlen : s.tru.later.length < 4) :
    (s.laterCause r).tru = { s.tru with later := s.tru.later ++ [(r.cause, s.tru.age)] } ∧
      (s.laterCause r).seq = s.seq ∧ (s.laterCause r).rpt.attention[Attention.trip.index] = true ∧
      ∀ k : Fin 8, s.recorder.currentSlot = some k → s.recorder.slots[k].state ≠ .empty →
        (s.laterCause r).recorder.slots[k].header.later =
          s.recorder.slots[k].header.later ++ [(r.cause.code, s.tru.age)] := by
  rcases State.laterCause_place_cases h hlen with e | e | e <;> rw [e]
  · refine ⟨s.withLater_tru r, s.withLater_seq r, State.raiseAttention_set _ _, fun k => State.withLater_listed r⟩
  · refine ⟨?_, ?_, State.truncateCapture_keeps (State.raiseAttention_set _ _), fun k hcurrent hheld => ?_⟩
    · rw [State.truncateCapture_tru]
      exact s.withLater_tru r
    · rw [State.truncateCapture_seq]
      exact s.withLater_seq r
    · rw [State.truncateCapture_header]
      exact State.withLater_listed r hcurrent hheld
  · refine ⟨?_, ?_, State.raiseAttention_set _ _, fun k hcurrent hheld => ?_⟩
    · rw [State.raiseAttention_tru, State.truncateCapture_tru]
      exact s.withLater_tru r
    · rw [State.raiseAttention_seq, State.truncateCapture_seq]
      exact s.withLater_seq r
    · exact (congrArg Header.later (State.truncateCapture_header _ k)).trans (State.withLater_listed r hcurrent hheld)

theorem State.cycleLostTruncates_of_ne {c : Cause} (h : c ≠ .cycleLost) (s : State) : s.cycleLostTruncates c = s := if_neg h

theorem State.cycleLostTruncates_of_eq {c : Cause} (h : c = .cycleLost) (s : State) :
    s.cycleLostTruncates c = s.truncateCapture := if_pos h

/-- R146: a cause dropped, of a cause other than CYCLE_LOST or with no capture in progress. -/
theorem State.laterCause_dropped {r : CauseRecord} (h : ¬ s.tru.known r.cause = true) (hlen : 4 ≤ s.tru.later.length) :
    (s.laterCause r).tru = { s.tru with dropped := min 255 (s.tru.dropped + 1) } ∧ (s.laterCause r).seq = s.seq ∧
      ((r.cause ≠ .cycleLost ∨ ∀ k : Fin 8, s.recorder.slots[k].state ≠ .capturing) → (s.laterCause r).rpt = s.rpt) := by
  rw [State.laterCause_of_full h hlen]
  refine ⟨by rw [State.cycleLostTruncates_tru, State.recordDropped_tru]; rfl,
    by rw [State.cycleLostTruncates_seq, State.recordDropped_seq], fun hno => ?_⟩
  by_cases hc : r.cause = .cycleLost
  · have hnone := hno.resolve_left (not_not.2 hc)
    rw [State.cycleLostTruncates_of_eq hc, State.truncateCapture_of_none ?_, State.recordDropped_rpt]
    intro k
    rw [State.recordDropped, State.updateTripHeader_state]
    exact hnone k
  · rw [State.cycleLostTruncates_of_ne hc, State.recordDropped_rpt]

/-- R159: CYCLE_LOST raised while a trip is declared, listed, dropped or known, ends the capture in progress. -/
theorem State.laterCause_truncates {r : CauseRecord} (hc : r.cause = .cycleLost) {k : Fin 8}
    (hk : s.recorder.slots[k].state = .capturing) (hfirst : ∀ j < k, s.recorder.slots[j].state ≠ .capturing) :
    (s.laterCause r).recorder.slots[k].state = .truncated ∧
      (s.laterCause r).rpt.attention[Attention.recordDone.index] = true ∧
      ∀ j, j ≠ k → (s.laterCause r).recorder.slots[j].state = s.recorder.slots[j].state := by
  have hends : ∀ t : State, (∀ j : Fin 8, t.recorder.slots[j].state = s.recorder.slots[j].state) →
      t.truncateCapture.recorder.slots[k].state = .truncated ∧
      t.truncateCapture.rpt.attention[Attention.recordDone.index] = true ∧
      ∀ j, j ≠ k → t.truncateCapture.recorder.slots[j].state = s.recorder.slots[j].state := by
    intro t ht
    obtain ⟨h1, h2, h3⟩ := State.truncateCapture_states (s := t) (k := k) (by rw [ht]; exact hk)
      (fun j hj => by rw [ht]; exact hfirst j hj)
    exact ⟨h1, h2, fun j hj => by rw [h3 j hj, ht]⟩
  have hlater : ∀ j : Fin 8, (s.withLater r).recorder.slots[j].state = s.recorder.slots[j].state := fun j => by
    unfold State.withLater State.recordLater
    rw [State.updateTripHeader_state]
  by_cases hknown : s.tru.known r.cause = true
  · rw [State.laterCause_of_known hknown, State.cycleLostTruncates_of_eq hc]
    exact hends s fun _ => rfl
  · by_cases hlen : s.tru.later.length < 4
    · have hsome : (s.withLater r).recorder.capturing.isSome = true :=
        (Recorder.capturing_isSome_iff _).2 ⟨k, by rw [hlater]; exact hk⟩
      rw [State.laterCause_of_place hknown hlen, if_pos (by rw [hsome]; simp [hc])]
      rcases inEitherOrder_cases (State.raiseAttention (tripRaise r)) State.truncateCapture (s.withLater r) with e | e <;> rw [e]
      · exact hends _ fun j => by rw [State.raiseAttention_recorder]; exact hlater j
      · obtain ⟨h1, h2, h3⟩ := hends (s.withLater r).drawn hlater
        refine ⟨by rw [State.raiseAttention_recorder]; exact h1, State.raiseAttention_keeps _ h2, fun j hj => ?_⟩
        rw [State.raiseAttention_recorder]
        exact h3 j hj
    · rw [State.laterCause_of_full hknown (Nat.not_lt.1 hlen), State.cycleLostTruncates_of_eq hc]
      exact hends _ fun j => by rw [State.recordDropped, State.updateTripHeader_state]

/-! ## One raise (R141 to R143) -/

/-- The state with the standing flag of a level cause set (R141). -/
def State.standingRaised (c : Cause) (s : State) : State :=
  { s with tru := { s.tru with standing := s.tru.standing.raised c } }

section
variable {c : Cause} {who : Who} {detail : Int}

theorem State.raiseCause_ignored (h : s.classOf c = .ignore) : s.raiseCause c who detail = s.standingRaised c := by
  simp only [State.raiseCause, h] <;> rfl

theorem State.raiseCause_warns (h : s.classOf c = .warn) : s.raiseCause c who detail =
    if s.tru.standing.get c then s.standingRaised c else (s.standingRaised c).reportCause ⟨c, who, detail⟩ := by
  simp only [State.raiseCause, h] <;> rfl

theorem State.raiseCause_blocked (h : s.classOf c = .trip) (hd : s.seq.drive = .blocked) : s.raiseCause c who detail =
    if s.tru.standing.get c then s.standingRaised c else (s.standingRaised c).reportCause ⟨c, who, detail⟩ := by
  unfold State.raiseCause
  simp only [h]
  split
  next ht => cases hd.symm.trans ht
  next => rfl
  next hnot => exact absurd hd hnot

theorem State.raiseCause_later (h : s.classOf c = .trip) (hd : s.seq.drive = .tripped) :
    s.raiseCause c who detail = (s.standingRaised c).laterCause ⟨c, who, detail⟩ := by
  unfold State.raiseCause
  simp only [h]
  split
  next => rfl
  next hb => cases hd.symm.trans hb
  next hnot _ => exact absurd hd hnot

end

/-- Settles O42: R142 by class and drive state, and R146 by what is known and what place is left. -/
theorem raiseTable : Obligations.RaiseTable := by
  intro s c who detail
  have hreported : ∀ {x : State}, (x = if s.tru.standing.get c then s.standingRaised c
        else (s.standingRaised c).reportCause ⟨c, who, detail⟩) →
      (s.tru.standing.get c = true → x = s.standingRaised c) ∧
      (s.tru.standing.get c = false → x = (s.standingRaised c).raiseAttention ⟨c.reportKind, c.code, who, detail⟩) :=
    fun hx => ⟨fun h => hx.trans (if_pos h), fun h => hx.trans (if_neg (by simp [h]))⟩
  refine ⟨State.raiseCause_ignored, fun h => hreported (State.raiseCause_warns h),
    fun h hd => hreported (State.raiseCause_blocked h hd), fun h h1 h2 => ?declares, fun h hd hne => ?later,
    fun h hd hcl => ?cycleLost⟩
  case declares =>
    obtain ⟨hdrive, htru, -⟩ := s.raiseCause_tripped h h1 h2 who detail
    exact ⟨hdrive, by rw [htru]; rfl, by rw [htru]; rfl⟩
  case later =>
    have hraise : s.raiseCause c who detail = _ := State.raiseCause_later h hd
    have hknown : (s.standingRaised c).tru.known c = true ↔ _ := TripUnit.known_iff _ c
    refine ⟨fun hk => ?_, fun hk hlen => ?_, fun hk hlen => ?_⟩
    · rw [hraise, State.laterCause_of_known (hknown.2 hk), State.cycleLostTruncates_of_ne hne]
      rfl
    · have hno : ¬ (s.standingRaised c).tru.known c = true := mt hknown.1 hk
      obtain ⟨htru, hseq, -, hlisted⟩ := State.laterCause_listed (s := s.standingRaised c) (r := ⟨c, who, detail⟩) hno hlen
      rw [← hraise] at htru hseq hlisted
      refine ⟨htru, hseq, ?_, hlisted⟩
      have hplace := (State.laterCause_of_place (s := s.standingRaised c) (r := ⟨c, who, detail⟩) hno hlen).trans
        (if_neg (by simp [hne]))
      rw [hraise, hplace]
      exact State.raiseAttention_rpt_congr (t := s) _ (State.recordLater_rpt ..)
        (congrArg Schedule.active (State.recordLater_sched ..)) (congrArg Intake.cycle (State.recordLater_intake ..))
    · obtain ⟨htru, hseq, hrpt⟩ := State.laterCause_dropped (s := s.standingRaised c) (r := ⟨c, who, detail⟩)
        (mt hknown.1 hk) hlen
      rw [← hraise] at htru hseq hrpt
      exact ⟨htru, hseq, hrpt (.inl hne)⟩
  case cycleLost =>
    have hraise : s.raiseCause c who detail = _ := State.raiseCause_later h hd
    have hknown : (s.standingRaised c).tru.known c = true ↔ _ := TripUnit.known_iff _ c
    refine ⟨?_, fun hk => ?_, fun hk hlen => ?_, fun hk hlen => ?_, fun k hcapturing hfirst => ?_⟩
    · rw [hraise, State.laterCause_eq]
      rfl
    · rw [hraise, State.laterCause_of_known (hknown.2 hk), State.cycleLostTruncates_of_eq hcl]
      exact ⟨State.truncateCapture_tru _, fun hnone => State.truncateCapture_of_none (s := s.standingRaised c) hnone⟩
    · obtain ⟨htru, -, htrip, hlisted⟩ := State.laterCause_listed (s := s.standingRaised c) (r := ⟨c, who, detail⟩)
        (mt hknown.1 hk) hlen
      rw [← hraise] at htru htrip hlisted
      exact ⟨htru, htrip, hlisted⟩
    · obtain ⟨htru, -, hrpt⟩ := State.laterCause_dropped (s := s.standingRaised c) (r := ⟨c, who, detail⟩)
        (mt hknown.1 hk) hlen
      rw [← hraise] at htru hrpt
      exact ⟨htru, fun hnone => hrpt (.inr hnone)⟩
    · rw [hraise]
      exact State.laterCause_truncates (s := s.standingRaised c) (r := ⟨c, who, detail⟩) hcl hcapturing hfirst

/-! ## The Trip request (R147) -/

theorem Manager.eq_or_ne_set (q : Requests) (m n : Manager) (x : ManagerState) :
    (q.set m x).get n = if m = n then x else q.get n := by
  cases m <;> cases n <;> rfl

/-- R37: the end of a pending activation leaves the holder of a request being answered as it is. -/
theorem State.answerActivation_holder {r : ResultCode} {m : Manager} {addr : Addr} {tag : Word}
    (h : (s.rqh.get m).holder = ⟨.answering, addr, tag⟩) :
    ((s.answerActivation r).rqh.get m).holder = ⟨.answering, addr, tag⟩ := by
  unfold State.answerActivation
  cases s.sched.activation with
  | none => exact h
  | some n =>
    dsimp only
    rw [Manager.eq_or_ne_set]
    split
    next hn => rw [hn, h]
    next => exact h

/-- R174: a response formed is the last of its manager's reply list. -/
theorem State.respond_replies (kind tag : Word) (r : ResultCode × List Word) (u : State) :
    ((u.respond a kind tag .answer r).rqh.get a.manager).replies.getLast? =
      some ⟨a.addr, kind, tag, r.1, r.2, u.cycleTag, .answer⟩ := by
  simp only [State.respond, State.formReply, Requests.get_set]
  exact List.getLast?_concat

theorem State.respond_holder (kind tag : Word) (r : ResultCode × List Word) (u : State) :
    ((u.respond a kind tag .answer r).rqh.get a.manager).holder = (u.rqh.get a.manager).holder := by
  simp only [State.respond, State.formReply, Requests.get_set]

/-- R147: EXTERNAL, no level cause, leaves the standing flags. -/
theorem State.standingRaised_external (s : State) : s.standingRaised .external = s := rfl

theorem State.raiseCause_external {detail : Int} (h1 : s.seq.drive ≠ .blocked) (h2 : s.seq.drive ≠ .tripped) :
    s.raiseCause .external .nobody detail = s.declareTrip ⟨.external, .nobody, detail⟩ :=
  s.raiseCause_declares rfl h1 h2 .nobody detail

theorem State.trippedWith_blockField (r : CauseRecord) (s : State) : (s.trippedWith r).blockField = 0 := by
  simp only [State.blockField, State.trippedWith, State.enterTripped_drive]

/-- R88, R144: a trip declared in a running state sends each converter a block frame with field reference 0. -/
theorem State.declareTrip_joins {u : State} (r : CauseRecord) (hrp : s.rp = u.rp) (hbank : s.sched.active = u.sched.active)
    (hrun : s.seq.drive.isRunning = true) : u.blocksJoin s.cycleTag 0 (s.declareTrip r).rp := by
  have hjoins := State.produceBlocks_joins (s := s.trippedWith r) (u := u)
    (by rw [State.trippedWith, State.enterTripped_rp]; exact hrp)
    (by rw [State.trippedWith, State.enterTripped_sched]; exact hbank)
  rw [State.trippedWith_blockField, State.cycleTag, State.trippedWith, State.enterTripped_intake] at hjoins
  rw [State.declareTrip_eq]
  dsimp only
  rw [if_pos hrun]
  exact hjoins

/-- Settles O43: R147's outcome by drive state, and block by block what the declared trip ends. -/
theorem tripRequested : Obligations.TripRequested := by
  intro s a tag detail htake known done
  have hresponds : ∀ {u : State}, (s.taking a tag).raiseCause .external .nobody detail.toNat = u →
      exec (.trip a.addr tag detail) s =
        .next (u.respond a 9 tag .answer (.done, [wordOfNat (s.taking a tag).tripOutcome])) := fun hu =>
    exec_request_responds (act := requestTrip detail) rfl rfl (by simp) htake (by rw [← hu]; rfl)
  have hholder : ((s.taking a tag).rqh.get a.manager).holder = ⟨.answering, a.addr, tag⟩ := by
    simp only [State.taking, State.setHolder, Requests.get_set]
  have hknown : s.tru.known .external = true ↔ known := TripUnit.known_iff _ _
  refine ⟨fun h1 h2 => ?declared, fun hd => ?blocked, fun hd => ⟨fun hk => ?known, fun hk => ?unknown⟩⟩
  case declared =>
    have hraise := State.raiseCause_external (s := s.taking a tag) (detail := detail.toNat) h1 h2
    have hraises := State.declareTrip_raises ⟨.external, .nobody, detail.toNat⟩ (s.taking a tag) (.inl rfl)
    have hjoins := State.declareTrip_joins (s := s.taking a tag) (u := s) ⟨.external, .nobody, detail.toNat⟩ rfl rfl
    have hreplies := State.respond_replies (a := a) 9 tag (.done, [wordOfNat (s.taking a tag).tripOutcome])
      ((s.taking a tag).declareTrip ⟨.external, .nobody, detail.toNat⟩)
    have hheld := State.respond_holder (a := a) 9 tag (.done, [wordOfNat (s.taking a tag).tripOutcome])
      ((s.taking a tag).declareTrip ⟨.external, .nobody, detail.toNat⟩)
    have houtcome : (s.taking a tag).tripOutcome = 0 := by
      unfold State.tripOutcome
      split
      next h => exact absurd h h1
      next h => exact absurd h h2
      next => rfl
    have hcycle : ((s.taking a tag).declareTrip ⟨.external, .nobody, detail.toNat⟩).cycleTag = s.cycleTag := by
      rw [State.cycleTag, State.declareTrip_intake]
      rfl
    rw [houtcome, hcycle] at hreplies
    have htripped := State.enterTripped_eq (s.taking a tag)
    refine ⟨_, hresponds hraise, ?_, ?_, ?_, ?_, ?_, ?_, ?_, ?_, ?_, fun hrun => ?_, fun hrun => ?_, ?_, ?_, hraises, ?_, ?_⟩
    · change ((s.taking a tag).declareTrip _).seq.drive = _
      rw [State.declareTrip_eq, htripped]
    · change ((s.taking a tag).declareTrip _).seq.grant = _
      rw [State.declareTrip_eq, htripped]
      rfl
    · change ((s.taking a tag).declareTrip _).tru = _
      rw [State.declareTrip_eq]
      rfl
    · change ((s.taking a tag).declareTrip _).lim.breakaway = _
      rw [State.declareTrip_eq]
    · change ((s.taking a tag).declareTrip _).sched.pin = _
      rw [State.declareTrip_eq]
    · change ((s.taking a tag).declareTrip _).sched.activation = _
      rw [State.declareTrip_eq]
    · change ((s.taking a tag).declareTrip _).sched.active = _
      rw [State.declareTrip_eq]
      rfl
    · change ((s.taking a tag).declareTrip _).sched.staged = _
      rw [State.declareTrip_eq]
      rfl
    · change ((s.taking a tag).declareTrip _).sched.generation = _
      rw [State.declareTrip_eq]
      rfl
    · have hreg : ((s.taking a tag).declareTrip ⟨.external, .nobody, detail.toNat⟩).reg = ⟨s.reg.a.quiet, s.reg.b.quiet⟩ := by
        rw [State.declareTrip_eq]
        exact if_pos hrun
      refine ⟨?_, ?_, ?_, ?_, hjoins hrun⟩
      · exact congrArg (fun x => x.a.output) hreg
      · exact congrArg (fun x => x.b.output) hreg
      · exact congrArg (fun x => x.a.saturated) hreg
      · exact congrArg (fun x => x.b.saturated) hreg
    · change ((s.taking a tag).declareTrip _).reg = _ ∧ ((s.taking a tag).declareTrip _).rp = _
      rw [State.declareTrip_eq]
      have hrest : ¬ (s.taking a tag).seq.drive.isRunning = true := by
        rw [show (s.taking a tag).seq.drive = s.seq.drive from rfl, hrun]
        exact nofun
      exact ⟨if_neg hrest, if_neg hrest⟩
    · change ((s.taking a tag).declareTrip _).seq.pendingTakeover = _
      rw [State.declareTrip_eq, htripped]
    · change ((s.taking a tag).declareTrip _).seq.outgoing = _
      rw [State.declareTrip_eq, htripped]
      rfl
    · have hrqh : ((s.taking a tag).declareTrip ⟨.external, .nobody, detail.toNat⟩).rqh =
          ((s.taking a tag).answerActivation .cancelled).rqh := by
        rw [State.declareTrip_eq]
      exact hheld.trans ((congrArg (fun h => (h.get a.manager).holder) hrqh).trans
        (State.answerActivation_holder hholder))
    · rw [houtcome]
      exact hreplies
  case blocked =>
    have hraise : (s.taking a tag).raiseCause .external .nobody detail.toNat =
        State.taking a tag (s.raiseAttention ⟨.trip, 8, .nobody, detail.toNat⟩) :=
      (State.raiseCause_blocked (s := s.taking a tag) rfl hd).trans (if_neg nofun)
    have houtcome : (s.taking a tag).tripOutcome = 4 := by
      unfold State.tripOutcome
      rw [show (s.taking a tag).seq.drive = .blocked from hd]
    refine exec_request_answered (act := requestTrip detail) rfl rfl (by simp) htake _ ?_ rfl
    rw [requestTrip, hraise, houtcome]
    rfl
  case known =>
    have hraise : (s.taking a tag).raiseCause .external .nobody detail.toNat = s.taking a tag :=
      (State.raiseCause_later (s := s.taking a tag) rfl hd).trans (State.laterCause_of_known (hknown.2 hk))
    have houtcome : (s.taking a tag).tripOutcome = 2 := by
      unfold State.tripOutcome
      rw [show (s.taking a tag).seq.drive = .tripped from hd]
      exact if_pos (hknown.2 hk)
    refine exec_request_refused (act := requestTrip detail) rfl rfl (by simp) htake ?_
    rw [requestTrip, hraise, houtcome]
    rfl
  case unknown =>
    have hraise := State.raiseCause_later (s := s.taking a tag) (c := .external) (who := .nobody) (detail := detail.toNat) rfl hd
    rw [State.standingRaised_external] at hraise
    have hno : ¬ (s.taking a tag).tru.known .external = true := mt hknown.1 hk
    have hseq : ((s.taking a tag).laterCause ⟨.external, .nobody, detail.toNat⟩).seq = s.seq := by
      rw [State.laterCause_eq]
      rfl
    have hcycle : ((s.taking a tag).laterCause ⟨.external, .nobody, detail.toNat⟩).cycleTag = s.cycleTag := by
      rw [State.laterCause_eq]
      rfl
    have hreplies := State.respond_replies (a := a) 9 tag (.done, [wordOfNat (s.taking a tag).tripOutcome])
      ((s.taking a tag).laterCause ⟨.external, .nobody, detail.toNat⟩)
    rw [hcycle] at hreplies
    have houtcome : (s.taking a tag).tripOutcome = if s.tru.later.length < 4 then 1 else 3 := by
      unfold State.tripOutcome
      rw [show (s.taking a tag).seq.drive = .tripped from hd]
      exact if_neg hno
    refine ⟨_, hresponds hraise, hseq, fun hlen => ⟨?_, ?_⟩, fun hlen => ⟨?_, ?_⟩⟩
    · exact congrArg TripUnit.later (State.laterCause_listed (s := s.taking a tag) (r := ⟨.external, .nobody, _⟩) hno hlen).1
    · rw [hreplies, houtcome, if_pos hlen]
      rfl
    · exact congrArg TripUnit.dropped (State.laterCause_dropped (s := s.taking a tag) (r := ⟨.external, .nobody, _⟩) hno hlen).1
    · rw [hreplies, houtcome, if_neg (Nat.not_lt.2 hlen)]
      rfl

/-! ## Acknowledge Trip (R148, R149) -/

theorem Recorder.tripCapturing_iff (r : Recorder) :
    r.tripCapturing = true ↔ ∃ k : Fin 8, r.currentSlot = some k ∧ r.slots[k].state = .capturing := by
  unfold Recorder.tripCapturing
  cases r.currentSlot with
  | none => simp
  | some j => simp

/-- R148: the fixed-class level causes in the order of their codes. -/
def levelCauses : List Cause := [.converterA, .converterB, .overcurrentA, .overcurrentB, .cycleLost, .sampleLoss]

theorem levelCauses_code {n : Nat} {c : Cause} (h : levelCauses[n]? = some c) : c.code = n + 1 := by
  match n with
  | 0 | 1 | 2 | 3 | 4 | 5 => cases h; rfl
  | n + 6 => cases h

theorem State.lowestStanding_of_first {n : Nat} (hn : (levelCauses.map s.conditionStands)[n]? = some true)
    (hfirst : ∀ j < n, (levelCauses.map s.conditionStands)[j]? = some false) :
    ∃ c, s.lowestStanding = some c ∧ c.code = n + 1 := by
  rw [List.getElem?_map, Option.map_eq_some_iff] at hn
  obtain ⟨c, hc, hstands⟩ := hn
  refine ⟨c, ?_, levelCauses_code hc⟩
  obtain ⟨hlt, hget⟩ := List.getElem?_eq_some_iff.1 hc
  refine List.find?_eq_some_iff_getElem.2 ⟨hstands, n, hlt, hget, fun j hj => ?_⟩
  have hnot := hfirst j hj
  rw [List.getElem?_map, List.getElem?_eq_getElem (hj.trans hlt)] at hnot
  have hfalse : s.conditionStands (levelCauses[j]'(hj.trans hlt)) = false := Option.some.inj hnot
  exact congrArg (! ·) hfalse

theorem State.lowestStanding_eq_none (h : ∀ x ∈ levelCauses.map s.conditionStands, x = false) : s.lowestStanding = none :=
  List.find?_eq_none.2 fun c hc => by simp [h _ (List.mem_map_of_mem hc)]

/-- R148, R149: with the asker, the state and the capture in order, the conditions decide. -/
theorem requestAcknowledge_judged (ha : a.manager = .driveMaster ∨ a.level = .commission) (hd : s.seq.drive = .tripped)
    (hc : ¬ s.recorder.tripCapturing = true) : requestAcknowledge a s =
      match s.lowestStanding with
      | some c => (s, some (.refusedState, [wordOfNat c.code]))
      | none =>
        let d := if s.seq.grant = .none then DriveState.blocked else DriveState.auxiliary
        answerDone [wordOfNat d.code]
          (State.setDrive d { s with tru := s.tru.acknowledged, recorder := { s.recorder with currentSlot := none } }) := by
  have haccess : ¬ (a.manager = .serviceStation ∧ a.level = .operate) := by
    rintro ⟨hm, hl⟩
    rcases ha with h | h
    · cases hm.symm.trans h
    · cases hl.symm.trans h
  exact (if_neg haccess).trans ((if_neg (not_not.2 hd)).trans (if_neg hc))

/-- Settles O44: the tests of R148 in their order, and the acknowledgement of R149. -/
theorem tripAcknowledged : Obligations.TripAcknowledged := by
  intro s a tag htake answers capturing i conditions d
  have hanswered : ∀ {code ws} (v : State), requestAcknowledge a (s.taking a tag) = (v.taking a tag, some (code, ws)) →
      v.rqh = s.rqh → exec (.acknowledgeTrip a.addr tag) s = .next (v.answered a 10 tag code ws) :=
    exec_request_answered (act := requestAcknowledge a) rfl rfl (Nat.zero_le _) htake
  have hcapturing : s.recorder.tripCapturing = true ↔ capturing := Recorder.tripCapturing_iff _
  refine ⟨fun hm hl => hanswered s (if_pos ⟨hm, hl⟩) rfl, fun ha => ⟨fun hd => hanswered s ?_ rfl,
    fun hd hc => hanswered s ?_ rfl, fun hd hc n hn hfirst => hanswered s ?_ rfl, fun hd hc hnone => ?_⟩⟩
  · rw [requestAcknowledge]
    split
    next h =>
      obtain ⟨hm, hl⟩ := h
      rcases ha with h | h
      · cases hm.symm.trans h
      · cases hl.symm.trans h
    next => exact if_pos hd
  · have haccess : ¬ (a.manager = .serviceStation ∧ a.level = .operate) := by
      rintro ⟨hm, hl⟩
      rcases ha with h | h
      · cases hm.symm.trans h
      · cases hl.symm.trans h
    exact (if_neg haccess).trans ((if_neg (not_not.2 hd)).trans (if_pos (hcapturing.2 hc)))
  · obtain ⟨c, hc', hcode⟩ := State.lowestStanding_of_first (s := s) hn hfirst
    rw [requestAcknowledge_judged (s := s.taking a tag) ha hd (mt hcapturing.1 hc),
      show (s.taking a tag).lowestStanding = some c from hc', ← hcode]
  · have hjudged := requestAcknowledge_judged (s := s.taking a tag) ha hd (mt hcapturing.1 hc)
    rw [show (s.taking a tag).lowestStanding = none from State.lowestStanding_eq_none (s := s) hnone] at hjudged
    exact hanswered { s with seq := _, tru := _, recorder := _ } hjudged rfl

/-! ## The capture that a trip starts (R155 to R157) -/

section
variable {r : Recorder}

/-- R156: a slot that is neither locked nor pinned. -/
def RecordSlot.unheld (x : RecordSlot) : Prop := x.locked = false ∧ x.pinned = false

/-- R156: an EMPTY slot that may be chosen. -/
def RecordSlot.free (x : RecordSlot) : Prop := x.state = .empty ∧ x.unheld

/-- R156: an occupied slot that may be chosen. -/
def RecordSlot.reusable (x : RecordSlot) : Prop := (x.state = .complete ∨ x.state = .truncated) ∧ x.unheld

theorem RecordSlot.free_iff (x : RecordSlot) : (x.state == .empty && !x.locked && !x.pinned) = true ↔ x.free := by
  simp [RecordSlot.free, RecordSlot.unheld, and_assoc]

theorem Recorder.older_of_not_reusable {k : Fin 8} (h : ¬ r.slots[k].reusable) (best : Option (Fin 8)) :
    r.older best k = best := by
  refine if_neg fun hyes => h ?_
  simpa [RecordSlot.reusable, RecordSlot.unheld, and_assoc] using hyes

theorem Recorder.older_of_reusable {k : Fin 8} (h : r.slots[k].reusable) (best : Option (Fin 8)) :
    r.older best k = match best with
      | none => some k
      | some j => if r.slots[k].header.seq < r.slots[j].header.seq then some k else some j := by
  refine if_pos ?_
  simpa [RecordSlot.reusable, RecordSlot.unheld, and_assoc] using h

/-- R156: no slot to reuse, none chosen. -/
theorem Recorder.foldl_older_none (h : ∀ k : Fin 8, ¬ r.slots[k].reusable) (l : List (Fin 8)) :
    l.foldl r.older none = none := by
  induction l with
  | nil => rfl
  | cons k l ih => rw [List.foldl_cons, Recorder.older_of_not_reusable (h k), ih]

/-- R156: the slot of the lowest sequence number, the lower one among equals, once met is kept. -/
theorem Recorder.foldl_older_kept {k : Fin 8} (hmin : ∀ j : Fin 8, r.slots[j].reusable →
      r.slots[k].header.seq < r.slots[j].header.seq ∨ r.slots[k].header.seq = r.slots[j].header.seq ∧ k ≤ j)
    (l : List (Fin 8)) : l.foldl r.older (some k) = some k := by
  induction l with
  | nil => rfl
  | cons j l ih =>
    have hstep : r.older (some k) j = some k := by
      by_cases hj : r.slots[j].reusable
      · rw [Recorder.older_of_reusable hj]
        refine if_neg ?_
        rcases hmin j hj with h | ⟨h, -⟩ <;> omega
      · exact Recorder.older_of_not_reusable hj _
    rw [List.foldl_cons, hstep, ih]

/-- R156: the slot of the lowest sequence number, the lower one among equals, is found. -/
theorem Recorder.foldl_older_found {k : Fin 8} (hk : r.slots[k].reusable) (hmin : ∀ j : Fin 8, r.slots[j].reusable →
      r.slots[k].header.seq < r.slots[j].header.seq ∨ r.slots[k].header.seq = r.slots[j].header.seq ∧ k ≤ j) :
    ∀ (l : List (Fin 8)) (best : Option (Fin 8)), l.Pairwise (· < ·) → k ∈ l →
      (∀ j, best = some j → r.slots[j].reusable ∧ j < k) → l.foldl r.older best = some k := by
  intro l
  induction l with
  | nil => exact fun _ _ hmem => nomatch hmem
  | cons x l ih =>
    intro best hsorted hmem hbest
    rw [List.foldl_cons]
    obtain ⟨hx, hl⟩ := List.pairwise_cons.1 hsorted
    rcases List.mem_cons.1 hmem with rfl | hmem
    · have hstep : r.older best k = some k := by
        rw [Recorder.older_of_reusable hk]
        cases best with
        | none => rfl
        | some j =>
          obtain ⟨hj, hlt⟩ := hbest j rfl
          refine if_pos ?_
          rcases hmin j hj with h | ⟨-, hle⟩
          · exact h
          · exact absurd hlt (not_lt.2 hle)
      rw [hstep]
      exact Recorder.foldl_older_kept hmin l
    · refine ih _ hl hmem fun j hj => ?_
      by_cases hreuse : r.slots[x].reusable
      · rw [Recorder.older_of_reusable hreuse] at hj
        have hxk := hx k hmem
        cases best with
        | none =>
          cases hj
          exact ⟨hreuse, hxk⟩
        | some i =>
          dsimp only at hj
          split at hj
          · cases hj
            exact ⟨hreuse, hxk⟩
          · cases hj
            exact hbest _ rfl
      · rw [Recorder.older_of_not_reusable hreuse] at hj
        exact hbest j hj

theorem Recorder.find?_free_none (h : ∀ k : Fin 8, ¬ r.slots[k].free) :
    ((List.finRange 8).find? fun k => r.slots[k].state == .empty && !r.slots[k].locked && !r.slots[k].pinned) = none :=
  List.find?_eq_none.2 fun k _ => mt (RecordSlot.free_iff _).1 (h k)

theorem Recorder.chooseSlot_none (h : ∀ k : Fin 8, ¬ r.slots[k].free ∧ ¬ r.slots[k].reusable) : r.chooseSlot = none := by
  unfold Recorder.chooseSlot
  rw [Recorder.find?_free_none fun k => (h k).1]
  exact Recorder.foldl_older_none (fun k => (h k).2) _

/-- R156: the slot chosen. -/
theorem Recorder.chooseSlot_some {k : Fin 8} (h : r.slots[k].free ∧ (∀ j < k, ¬ r.slots[j].free) ∨
      (∀ j : Fin 8, ¬ r.slots[j].free) ∧ r.slots[k].reusable ∧ ∀ j : Fin 8, r.slots[j].reusable →
        r.slots[k].header.seq < r.slots[j].header.seq ∨ r.slots[k].header.seq = r.slots[j].header.seq ∧ k ≤ j) :
    r.chooseSlot = some k := by
  unfold Recorder.chooseSlot
  rcases h with ⟨hk, hfirst⟩ | ⟨hnone, hk, hmin⟩
  · rw [find?_finRange_eq_some ((RecordSlot.free_iff _).2 hk) fun j hj =>
      Bool.not_eq_true _ ▸ mt (RecordSlot.free_iff _).1 (hfirst j hj)]
  · rw [Recorder.find?_free_none hnone]
    exact Recorder.foldl_older_found hk hmin _ none (List.pairwise_lt_finRange 8) (List.mem_finRange k) nofun

end

/-- Settles O45: R156's choice, and the slot written from the values standing at the raise. -/
theorem captureStarts : Obligations.CaptureStarts := by
  intro s a tag detail b htake h1 h2 hb r unheld free kept v m
  have hraise := State.raiseCause_external (s := s.taking a tag) (detail := detail.toNat) h1 h2
  have hresponds := exec_request_responds (act := requestTrip detail) (c := .trip a.addr tag detail) rfl rfl (by simp) htake
    (Prod.ext hraise rfl)
  have hrecorder : ((s.taking a tag).declareTrip ⟨.external, .nobody, detail.toNat⟩).recorder =
      (s.startCapture ⟨.external, .nobody, detail.toNat⟩).1 := by
    rw [State.declareTrip_eq]
    rfl
  refine ⟨_, hresponds, fun hnone => ?_, fun k hk => ?_⟩
  · have hchoose : s.recorder.chooseSlot = none := Recorder.chooseSlot_none hnone
    have hcapture : s.startCapture ⟨.external, .nobody, detail.toNat⟩ =
        ({ s.recorder with currentSlot := none }, [⟨.recordNotKept, 0, .nobody, (8 : Nat)⟩]) := by
      simp only [State.startCapture, hchoose] <;> rfl
    refine ⟨hrecorder.trans (congrArg Prod.fst hcapture), ?_⟩
    exact State.declareTrip_raises ⟨.external, .nobody, detail.toNat⟩ (s.taking a tag)
      (x := ⟨.recordNotKept, 0, .nobody, (8 : Nat)⟩)
      (.inr (by rw [show (s.taking a tag).startCapture _ = _ from hcapture]; exact List.mem_singleton_self _))
  · have hchoose : s.recorder.chooseSlot = some k := Recorder.chooseSlot_some hk
    refine hrecorder.trans ?_
    simp only [State.startCapture, hchoose, hb]
    rfl

end Sys2Proof.Machine
end

section
/-! PROOF. Sample frames: what a mapped frame of a cycle role does, and one action among several in any order. -/

namespace Sys2Proof.Machine

/-! ## One action among several in any order -/

/-- Two or more actions in any order: one of them goes first. -/
theorem inAnyOrder_first {acts : List (State → State)} (h : 2 ≤ acts.length) (n : Nat) (s : State) :
    ∃ (i : Nat) (hi : i < acts.length), inAnyOrder (n + 1) acts s = inAnyOrder n (acts.eraseIdx i) (acts[i] s.drawn) := by
  match acts, h with
  | a :: b :: rest, _ =>
    have hi : Config.choice s.draws % (a :: b :: rest).length < (a :: b :: rest).length := Nat.mod_lt _ (by simp)
    refine ⟨_, hi, ?_⟩
    rw [← List.getD_eq_getElem (a :: b :: rest) id hi]
    rfl

/-- What holds until the action `a`, which every other action keeps, and what `a` then brings about and every other action keeps. -/
theorem inAnyOrder_once {P Q : State → Prop} (hdP : ∀ s, P s → P s.drawn) (hdQ : ∀ s, Q s → Q s.drawn) {a : State → State}
    (ha : ∀ s, P s → Q (a s)) : ∀ (n : Nat) (pre post : List (State → State)) (s : State), pre.length + post.length < n →
      (∀ x ∈ pre ++ post, ∀ s, P s → P (x s)) → (∀ x ∈ pre ++ post, ∀ s, Q s → Q (x s)) → P s →
      Q (inAnyOrder n (pre ++ a :: post) s)
  | 0, _, _, _, hn, _, _, _ => absurd hn (Nat.not_lt_zero _)
  | n + 1, [], [], s, _, _, _, h => ha s h
  | n + 1, pre, post, s, hn, hP, hQ, h => by
    by_cases hone : pre.length + post.length = 0
    · obtain ⟨rfl, rfl⟩ : pre = [] ∧ post = [] := by simpa using hone
      exact ha s h
    have hlen : (pre ++ a :: post).length = pre.length + (post.length + 1) := by simp
    obtain ⟨i, hi, e⟩ := inAnyOrder_first (acts := pre ++ a :: post) (by omega) n s
    rw [e]
    rcases Nat.lt_trichotomy i pre.length with hlt | rfl | hgt
    · have helem : (pre ++ a :: post)[i] = pre[i] := List.getElem_append_left hlt
      have hmem : ∀ x, x ∈ pre.eraseIdx i ++ post → x ∈ pre ++ post := fun x hx =>
        (List.mem_append.1 hx).elim (fun h => List.mem_append_left _ (List.mem_of_mem_eraseIdx h)) (List.mem_append_right _)
      rw [List.eraseIdx_append_of_lt_length hlt, helem]
      refine inAnyOrder_once hdP hdQ ha n _ _ _ ?_ (fun x hx => hP x (hmem x hx)) (fun x hx => hQ x (hmem x hx))
        (hP _ (List.mem_append_left _ (List.getElem_mem hlt)) _ (hdP s h))
      rw [List.length_eraseIdx_of_lt hlt]
      omega
    · have helem : (pre ++ a :: post)[pre.length] = a := by simp
      rw [List.eraseIdx_append_of_length_le (Nat.le_refl _), helem]
      simp only [Nat.sub_self, List.eraseIdx_cons_zero]
      exact inAnyOrder_keeps hdQ n _ _ hQ (ha _ (hdP s h))
    · obtain ⟨j, rfl⟩ : ∃ j, i = pre.length + (j + 1) := ⟨i - pre.length - 1, by omega⟩
      have hj : j < post.length := by omega
      have helem : (pre ++ a :: post)[pre.length + (j + 1)] = post[j] := by simp
      have hmem : ∀ x, x ∈ pre ++ post.eraseIdx j → x ∈ pre ++ post := fun x hx =>
        (List.mem_append.1 hx).elim (List.mem_append_left _) fun h => List.mem_append_right _ (List.mem_of_mem_eraseIdx h)
      rw [List.eraseIdx_append_of_length_le (by omega), helem]
      simp only [Nat.add_sub_cancel_left, List.eraseIdx_cons_succ]
      refine inAnyOrder_once hdP hdQ ha n _ _ _ ?_ (fun x hx => hP x (hmem x hx)) (fun x hx => hQ x (hmem x hx))
        (hP _ (List.mem_append_right _ (List.getElem_mem hj)) _ (hdP s h))
      rw [List.length_eraseIdx_of_lt hj]
      omega

/-! ## A mapped frame of a cycle role -/

variable {s : State} {f : RawFrame} {b : Bank} {e : SlotEntry} {m : Motor}

theorem exec_sampleFrame (h : s.hears f) (hc : s.classify f = some (b, e)) :
    exec (.sampleFrame f) s = .next ((s.forward f).readSample b e f) := by
  have hclass : (s.forward f).classify f = some (b, e) := (State.classify_congr (congrArg _ (s.forward_sched f))).trans hc
  have hkind : ¬ f.kindCode = kindMark := by
    intro hk
    have hnone : sampleKind f.kindCode f.payload.length = none := by
      rw [hk]
      simp [sampleKind, kindMark, kindReference, kindArmature, kindSpeed, kindVibration]
    unfold State.classify at hc
    rw [hnone] at hc
    cases hactive : s.sched.active <;> rw [hactive] at hc <;> exact absurd hc nofun
  change Host.Outcome.next (s.receiveFrame f) = _
  rw [s.receiveFrame_hears h, State.readBroadcast, if_neg hkind, hclass]

theorem State.readSample_arm (hrole : e.role = .arm m) {w0 w1 w2 : Word} (hp : f.payload = [w0, w1, w2]) (s : State) :
    s.readSample b e f = s.takeOrDiscard f.tag (s.intake.arm.get m).status.taken (State.takeArm m (latchArm e w0 w1 w2)) := by
  unfold State.readSample
  simp only [hrole, hp]

theorem State.readSample_speed (hrole : e.role = .speed) {w0 w1 w2 : Word} (hp : f.payload = [w0, w1, w2]) (s : State) :
    s.readSample b e f = s.takeOrDiscard f.tag s.intake.speed.status.taken (State.takeSpeed b (latchSpeed e w0 w1 w2)) := by
  unfold State.readSample
  simp only [hrole, hp]

theorem State.readSample_ref (hrole : e.role = .ref) {w0 w1 : Word} (hp : f.payload = [w0, w1]) (s : State) :
    s.readSample b e f = s.takeOrDiscard f.tag s.intake.ref.status.taken (State.takeRef (latchRef w0 w1)) := by
  unfold State.readSample
  simp only [hrole, hp]

/-- R14, R15: a mapped frame of a cycle role is taken or discarded. -/
theorem State.readSample_cycle {taken : Bool} (h : cycleTaken s.intake e f = some taken) :
    ∃ act, s.readSample b e f = s.takeOrDiscard f.tag taken act := by
  unfold cycleTaken at h
  split at h
  next hrole hp => exact ⟨_, Option.some.inj h ▸ s.readSample_arm hrole hp⟩
  next hrole hp => exact ⟨_, Option.some.inj h ▸ s.readSample_speed hrole hp⟩
  next hrole hp => exact ⟨_, Option.some.inj h ▸ s.readSample_ref hrole hp⟩
  next => exact absurd h nofun

theorem State.takeOrDiscard_take {tag : Word} {act : State → State} (hcycle : s.intake.cycle = some tag)
    (hrun : s.intake.deadline.isRunning = true) : s.takeOrDiscard tag false act = act s := by
  simp [State.takeOrDiscard, Intake.judge, hcycle, hrun]

/-- Settles O15: the tests of R15 one after the other. -/
theorem samplesDiscarded : Obligations.SamplesDiscarded := by
  intro s f b e taken hhears hclass htaken
  obtain ⟨act, hact⟩ := State.readSample_cycle (s := s.forward f) (b := b)
    ((congrArg (fun i => cycleTaken i e f) (s.forward_intake f)).trans htaken)
  rw [exec_sampleFrame hhears hclass, hact]
  unfold State.takeOrDiscard Intake.judge
  rw [s.forward_intake f]
  refine ⟨fun hstale => ?_, fun hcycle hlate => ?_, fun hcycle hrun htook => ?_⟩
  · rw [if_pos hstale]
    simp [State.discardSample, bump, bumpBy]
  · rw [if_neg (by simp [hcycle]), if_pos (by simp [hlate])]
    simp [State.discardSample, bump, bumpBy]
  · rw [if_neg (by simp [hcycle]), if_neg (by simp [hrun]), if_pos htook]
    simp [State.discardSample, bump, bumpBy]

/-- R14: a take of the frame carries out the action of its role, at the state in which the frame is forwarded. -/
theorem exec_takesSample {act : State → State} (h : s.takesSample f b e)
    (hread : (s.forward f).readSample b e f = (s.forward f).takeOrDiscard f.tag false act) :
    exec (.sampleFrame f) s = .next (act (s.forward f)) := by
  obtain ⟨hhears, hclass, hcycle, hrun, -⟩ := h
  rw [exec_sampleFrame hhears hclass, hread,
    State.takeOrDiscard_take (by rw [s.forward_intake]; exact hcycle) (by rw [s.forward_intake]; exact hrun)]

theorem exec_takesArm (h : s.takesSample f b e) (hrole : e.role = .arm m) {w0 w1 w2 : Word} (hp : f.payload = [w0, w1, w2]) :
    exec (.sampleFrame f) s = .next ((s.forward f).takeArm m (latchArm e w0 w1 w2)) := by
  refine exec_takesSample h ?_
  have htaken := h.2.2.2.2
  unfold cycleTaken at htaken
  simp only [hrole, hp] at htaken
  rw [State.readSample_arm hrole hp, s.forward_intake, Option.some.inj htaken]

theorem exec_takesSpeed (h : s.takesSample f b e) (hrole : e.role = .speed) {w0 w1 w2 : Word} (hp : f.payload = [w0, w1, w2]) :
    exec (.sampleFrame f) s = .next ((s.forward f).takeSpeed b (latchSpeed e w0 w1 w2)) := by
  refine exec_takesSample h ?_
  have htaken := h.2.2.2.2
  unfold cycleTaken at htaken
  simp only [hrole, hp] at htaken
  rw [State.readSample_speed hrole hp, s.forward_intake, Option.some.inj htaken]

theorem exec_takesRef (h : s.takesSample f b e) (hrole : e.role = .ref) {w0 w1 : Word} (hp : f.payload = [w0, w1]) :
    exec (.sampleFrame f) s = .next ((s.forward f).takeRef (latchRef w0 w1)) := by
  refine exec_takesSample h ?_
  have htaken := h.2.2.2.2
  unfold cycleTaken at htaken
  simp only [hrole, hp] at htaken
  rw [State.readSample_ref hrole hp, s.forward_intake, Option.some.inj htaken]

/-! ## The armature frame -/

/-- R14: no regulation event follows a take of ARM_m before the reference event or after the motor's own. -/
theorem regulation_not_due {i : Intake} (h : i.refMade = false ∨ i.regMade.get m = true) :
    (i.refMade && !i.regMade.get m) = false := by
  rcases h with h | h <;> simp [h]

/-- Settles O16: the take of an armature with no event due is its latch alone. -/
theorem armatureTaken : Obligations.ArmatureTaken := by
  intro s f b e m w0 w1 w2 h hrole hp hfault hdue
  have hlatch : latchArm e w0 w1 w2 =
      ⟨e.condition w1.toInt, e.condition w2.toInt, w0.getLsbD 4, 0, ⟨.fresh, true, 0, false⟩⟩ := by
    simp [latchArm, hfault, qualityOf, RoleStatus.takenWith]
  have hnot := regulation_not_due (i := (s.forward f).intake) (by rw [s.forward_intake]; exact hdue)
  rw [exec_takesArm h hrole hp, hlatch]
  unfold State.takeArm State.regulateIf
  rw [hnot, if_neg Bool.false_ne_true]
  rfl

/-- R14, R140: a take of ARM_m with a fault code, with no regulation event due, raises CONVERTER_m. -/
theorem State.takeArm_of_fault {x : ArmLatch} (hfault : x.fault ≠ 0)
    (hdue : s.intake.refMade = false ∨ s.intake.regMade.get m = true) : s.takeArm m x = State.raiseCause (.converter m) (.motor m)
      x.fault { s with
        intake := { s.intake with arm := s.intake.arm.set m x }
        tru := { s.tru with converterFault := s.tru.converterFault.set m (some x.fault) } } := by
  unfold State.takeArm State.regulateIf State.takeConverterStatus
  rw [regulation_not_due hdue, if_neg Bool.false_ne_true, if_neg hfault]

/-- Settles O17: CONVERTER_m is of class TRIP always, so its raise declares the trip. -/
theorem converterFaultTrips : Obligations.ConverterFaultTrips := by
  intro s f b e m w0 w1 w2 h hrole hp hfault hdue h1 h2
  have hlatch : (latchArm e w0 w1 w2).status = ⟨.bad, true, 0, false⟩ := by
    simp [latchArm, hfault, qualityOf, RoleStatus.takenWith]
  have hcode : (latchArm e w0 w1 w2).fault = bitsOf w0 0 4 := rfl
  rw [exec_takesArm h hrole hp,
    State.takeArm_of_fault (x := latchArm e w0 w1 w2) hfault (by rw [s.forward_intake]; exact hdue), hcode]
  generalize latchArm e w0 w1 w2 = x at hlatch hcode
  generalize hu : ({ s.forward f with
      intake := { (s.forward f).intake with arm := (s.forward f).intake.arm.set m x }
      tru := { (s.forward f).tru with converterFault := (s.forward f).tru.converterFault.set m (some (bitsOf w0 0 4)) } } : State) = u
  have hdrive : u.seq.drive = s.seq.drive := by rw [← hu]; exact congrArg (·.drive) (s.forward_seq f)
  have hclass : u.classOf (.converter m) = .trip := by cases m <;> rfl
  obtain ⟨htripped, htru, -⟩ := u.raiseCause_tripped hclass (hdrive ▸ h1) (hdrive ▸ h2) (.motor m) (bitsOf w0 0 4)
  have hintake : (u.raiseCause (.converter m) (.motor m) (bitsOf w0 0 4)).intake.arm.get m = x := by
    rw [u.raiseCause_intake, ← hu]
    cases m <;> rfl
  have hcycle : u.cycleTag = f.tag := by
    rw [← hu]
    exact congrArg (·.getD 0) ((congrArg (·.cycle) (s.forward_intake f)).trans h.2.2.1)
  have hfaults : u.tru.converterFault = s.tru.converterFault.set m (some (bitsOf w0 0 4)) := by
    rw [← hu]
    exact congrArg (fun t : TripUnit => t.converterFault.set m (some (bitsOf w0 0 4))) (s.forward_tru f)
  refine ⟨_, rfl, ?_, ?_, ?_, htripped, ?_⟩
  · exact (congrArg (·.status) hintake).trans hlatch
  · exact (congrArg (·.fault) hintake).trans hcode
  · exact (congrArg (·.converterFault) htru).trans hfaults
  · rw [htru, hcycle]
    exact ⟨rfl, rfl, rfl, rfl, rfl⟩

end Sys2Proof.Machine
end

section
/-! PROOF. A speed sample delivered: the Drive Sequencer's part of it, and the order of the four blocks' actions. -/

namespace Sys2Proof.Machine

variable {s t u : State} {f : RawFrame} {b : Bank} {e : SlotEntry} {v : Int} {a : Nat}

/-! ## The angle sums (R121, R122, R126) -/

/-- R122, R126: the movement accumulator 0, the turn timer reloaded, turn-due clear. -/
def Sequencer.withInterval (b : Bank) (q : Sequencer) : Sequencer :=
  { q with
    movement := 0
    turnTimer := if q.hot then (TurnTimer.counting (seconds b.dc.g1.turnInterval)).follow q.drive else .idle
    turnDue := false
    overdue := .stopped }

theorem State.intervalRestarted_eq (b : Bank) (s : State) :
    s.intervalRestarted b = { s with seq := s.seq.withInterval b } := rfl

/-- R121, R126: a sample's step in the sums, and the interval restarted where the movement reaches turn_angle. -/
def Sequencer.afterAngle (b : Bank) (a : Nat) (q : Sequencer) : Sequencer :=
  if b.dc.g1.turnAngle ≤ (q.addAngle a).movement.natAbs then (q.addAngle a).withInterval b else q.addAngle a

/-- R122: a sample whose advance reaches turn_angle in TURNING. -/
abbrev Sequencer.completesTurn (b : Bank) (a : Nat) (q : Sequencer) : Prop :=
  q.drive = .turning ∧ b.dc.g1.turnAngle ≤ (q.addAngle a).advance.natAbs

theorem State.afterAngle_restarted (b : Bank) (a : Nat) (s : State) :
    (if b.dc.g1.turnAngle ≤ (s.seq.addAngle a).movement.natAbs then
      State.intervalRestarted b { s with seq := s.seq.addAngle a } else { s with seq := s.seq.addAngle a }) =
      { s with seq := s.seq.afterAngle b a } := by
  unfold Sequencer.afterAngle
  split
  · rfl
  · rfl

/-- R121: outside STOPPING, with no turn completed, a sample changes the sums alone. -/
theorem State.sequenceSample_standing (h1 : s.seq.drive ≠ .stopping) (h2 : ¬ s.seq.completesTurn b a) :
    s.sequenceSample b v a = { s with seq := s.seq.afterAngle b a } := by
  unfold State.sequenceSample
  rw [if_neg h1, if_neg h2]
  exact State.afterAngle_restarted b a s

theorem State.sequenceSample_stopping (h : s.seq.drive = .stopping) :
    s.sequenceSample b v a = State.countStop b v { s with seq := s.seq.afterAngle b a } := by
  have hturning : ¬ s.seq.completesTurn b a := fun hc => nomatch hc.1.symm.trans h
  unfold State.sequenceSample
  rw [if_pos h, if_neg hturning]
  exact congrArg (State.countStop b v) (State.afterAngle_restarted b a s)

/-- R122: a turn completed, and the interval restarted once more where the movement then reaches turn_angle. -/
theorem State.sequenceSample_completing (h : s.seq.completesTurn b a) :
    let w := State.completeTurn b { s with seq := s.seq.addAngle a }
    s.sequenceSample b v a = w ∨ s.sequenceSample b v a = w.intervalRestarted b := by
  intro w
  have hstopping : ¬ s.seq.drive = .stopping := fun hd => nomatch h.1.symm.trans hd
  unfold State.sequenceSample
  rw [if_neg hstopping, if_pos h]
  split
  · exact .inr rfl
  · exact .inl rfl

theorem State.completeTurn_of_clear (h : s.intake.markLoss = false) : s.completeTurn b = { s with
    seq := Sequencer.withInterval b { s.seq with drive := .stopping, stopCount := 0, turnComplete := true }
    lim := { s.lim with
      breakaway := none
      outcome := if s.lim.breakaway = none then s.lim.outcome else .abandoned } } := by
  unfold State.completeTurn
  rw [State.enterStopping_eq]
  exact State.raiseMarkLoss_of_clear (s := { s with seq := Sequencer.withInterval b _, lim := _ }) h

/-- R122: a turn completed with no mark loss standing. -/
theorem State.sequenceSample_completes (h : s.seq.completesTurn b a) (hloss : s.intake.markLoss = false) :
    s.sequenceSample b v a = { s with
      seq := Sequencer.withInterval b { s.seq.addAngle a with drive := .stopping, stopCount := 0, turnComplete := true }
      lim := { s.lim with
        breakaway := none
        outcome := if s.lim.breakaway = none then s.lim.outcome else .abandoned } } := by
  have hturn := State.completeTurn_of_clear (s := { s with seq := s.seq.addAngle a }) (b := b) hloss
  rcases State.sequenceSample_completing (v := v) h with e | e <;> rw [e, hturn] <;> rfl

/-! ## What a sample's sums and row are, whatever the raises of its actions do -/

/-- R144: a raise keeps the angles and the computed row. -/
theorem State.raiseCause_sampled (c : Cause) (who : Who) (detail : Int) (s : State) :
    let t := s.raiseCause c who detail
    t.seq.lastAngle = s.seq.lastAngle ∧ t.seq.advance = s.seq.advance ∧ t.sched.computedRow = s.sched.computedRow := by
  intro t
  rcases s.raiseCause_cases c who detail with e | ⟨-, -, e⟩ | ⟨-, -, e⟩ | ⟨-, -, -, e⟩ <;>
    rw [show t = _ from e]
  · exact ⟨rfl, rfl, rfl⟩
  · rw [State.reportCause_seq, State.reportCause_sched]
    exact ⟨rfl, rfl, rfl⟩
  · rw [State.laterCause_eq]
    exact ⟨rfl, rfl, rfl⟩
  · rw [State.declareTrip_eq, State.enterTripped_eq]
    exact ⟨rfl, rfl, rfl⟩

/-- R142: a raise keeps the drive state or leaves TRIPPED. -/
theorem State.raiseCause_drive (c : Cause) (who : Who) (detail : Int) (s : State) :
    (s.raiseCause c who detail).seq.drive = s.seq.drive ∨ (s.raiseCause c who detail).seq.drive = .tripped := by
  rcases s.raiseCause_cases c who detail with e | ⟨-, -, e⟩ | ⟨-, -, e⟩ | ⟨-, -, -, e⟩ <;> rw [e]
  · exact .inl rfl
  · rw [State.reportCause_seq]
    exact .inl rfl
  · rw [State.laterCause_eq]
    exact .inl rfl
  · rw [State.declareTrip_eq, State.enterTripped_eq]
    exact .inr rfl

theorem State.raiseMarkLoss_sampled (s : State) :
    let t := s.raiseMarkLoss
    t.seq.lastAngle = s.seq.lastAngle ∧ t.seq.advance = s.seq.advance ∧ t.sched.computedRow = s.sched.computedRow := by
  unfold State.raiseMarkLoss
  dsimp only
  split
  · exact State.raiseCause_sampled _ _ _ s
  · exact ⟨rfl, rfl, rfl⟩

theorem State.raiseMarkLoss_drive (s : State) :
    s.raiseMarkLoss.seq.drive = s.seq.drive ∨ s.raiseMarkLoss.seq.drive = .tripped := by
  unfold State.raiseMarkLoss
  split
  · exact State.raiseCause_drive _ _ _ s
  · exact .inl rfl

theorem Sequencer.afterAngle_keeps (b : Bank) (a : Nat) (q : Sequencer) :
    (q.afterAngle b a).drive = q.drive ∧ (q.afterAngle b a).lastAngle = some a ∧
      (q.afterAngle b a).advance = (q.addAngle a).advance ∧ (q.afterAngle b a).stopCount = q.stopCount ∧
      (q.afterAngle b a).pendingTakeover = q.pendingTakeover ∧ (q.afterAngle b a).grant = q.grant ∧
      (q.afterAngle b a).outgoing = q.outgoing := by
  unfold Sequencer.afterAngle
  split <;> exact ⟨rfl, rfl, rfl, rfl, rfl, rfl, rfl⟩

/-- R130, R131: a takeover judged changes the drive, the grant and the auxiliary frame at most. -/
theorem State.judgeTakeover_sums (s : State) : s.judgeTakeover.seq.lastAngle = s.seq.lastAngle ∧
    s.judgeTakeover.seq.advance = s.seq.advance ∧ s.judgeTakeover.seq.movement = s.seq.movement ∧
    s.judgeTakeover.seq.stopCount = s.seq.stopCount ∧ s.judgeTakeover.seq.pendingTakeover = s.seq.pendingTakeover := by
  unfold State.judgeTakeover State.produceDecline State.produceHandover State.produceAux
  dsimp only
  split <;> split <;> exact ⟨rfl, rfl, rfl, rfl, rfl⟩

theorem State.judgeTakeover_drive (s : State) :
    s.judgeTakeover.seq.drive = s.seq.drive ∨ s.judgeTakeover.seq.drive = .auxiliary := by
  unfold State.judgeTakeover State.produceDecline State.produceHandover State.produceAux
  dsimp only
  split <;> split
  · exact .inl rfl
  · exact .inl rfl
  · exact .inr rfl
  · exact .inr rfl

/-- R120: the Sequencer of the state in which a stop is confirmed, before a takeover is judged. -/
theorem State.ready_seq (s : State) : (s.setDrive .ready).leaveRunning.vibrationOnReady.seq = (s.setDrive .ready).seq := by
  rw [State.vibrationOnReady_seq, State.leaveRunning_seq]

theorem State.confirmStop_sums (s : State) : s.confirmStop.seq.lastAngle = s.seq.lastAngle ∧
    s.confirmStop.seq.advance = s.seq.advance ∧ s.confirmStop.seq.movement = s.seq.movement ∧
    s.confirmStop.seq.stopCount = s.seq.stopCount ∧ s.confirmStop.seq.pendingTakeover = false := by
  unfold State.confirmStop
  dsimp only
  split
  · have hsums := State.judgeTakeover_sums { (s.setDrive .ready).leaveRunning.vibrationOnReady with
      seq := { (s.setDrive .ready).leaveRunning.vibrationOnReady.seq with pendingTakeover := false } }
    dsimp only at hsums
    rw [s.ready_seq] at hsums ⊢
    exact hsums
  next hpending =>
    rw [s.ready_seq] at hpending ⊢
    exact ⟨rfl, rfl, rfl, rfl, by simpa using hpending⟩

theorem State.confirmStop_drive (s : State) : s.confirmStop.seq.drive = .ready ∨ s.confirmStop.seq.drive = .auxiliary := by
  unfold State.confirmStop
  dsimp only
  split
  · have hdrive := State.judgeTakeover_drive { (s.setDrive .ready).leaveRunning.vibrationOnReady with
      seq := { (s.setDrive .ready).leaveRunning.vibrationOnReady.seq with pendingTakeover := false } }
    dsimp only at hdrive
    rw [s.ready_seq] at hdrive ⊢
    exact hdrive
  · rw [s.ready_seq]
    exact .inl rfl

theorem State.countStop_sums (b : Bank) (v : Int) (s : State) : (s.countStop b v).seq.lastAngle = s.seq.lastAngle ∧
    (s.countStop b v).seq.advance = s.seq.advance ∧ (s.countStop b v).seq.movement = s.seq.movement := by
  unfold State.countStop
  dsimp only
  split
  · split
    · have hsums := State.confirmStop_sums { s with seq := { s.seq with stopCount := bumpBy 10000 1 s.seq.stopCount } }
      exact ⟨hsums.1, hsums.2.1, hsums.2.2.1⟩
    · exact ⟨rfl, rfl, rfl⟩
  · exact ⟨rfl, rfl, rfl⟩

theorem State.countStop_drive (b : Bank) (v : Int) (s : State) : (s.countStop b v).seq.drive = s.seq.drive ∨
    (s.countStop b v).seq.drive = .ready ∨ (s.countStop b v).seq.drive = .auxiliary := by
  unfold State.countStop
  dsimp only
  split
  · split
    · exact .inr (State.confirmStop_drive _)
    · exact .inl rfl
  · exact .inl rfl

theorem State.completeTurn_sampled (b : Bank) (s : State) : (s.completeTurn b).seq.lastAngle = s.seq.lastAngle ∧
    (s.completeTurn b).seq.advance = s.seq.advance ∧ (s.completeTurn b).sched.computedRow = s.sched.computedRow ∧
    ((s.completeTurn b).seq.drive = .stopping ∨ (s.completeTurn b).seq.drive = .tripped) := by
  unfold State.completeTurn
  rw [State.enterStopping_eq]
  obtain ⟨hangle, hadvance, hrow⟩ := State.raiseMarkLoss_sampled { s with
    seq := Sequencer.withInterval b { s.seq with
      drive := .stopping, stopCount := 0, turnComplete := true, turnTimer := s.seq.turnTimer.follow .stopping }
    lim := { s.lim with
      breakaway := none
      outcome := if s.lim.breakaway = none then s.lim.outcome else .abandoned } }
  exact ⟨hangle, hadvance, hrow, State.raiseMarkLoss_drive _⟩

/-- R121: the last angle, the advance and the computed row after the Drive Sequencer's part of a sample. -/
theorem State.sequenceSample_sampled (b : Bank) (v : Int) (a : Nat) (s : State) :
    (s.sequenceSample b v a).seq.lastAngle = some a ∧ (s.sequenceSample b v a).seq.advance = (s.seq.addAngle a).advance ∧
      (s.sequenceSample b v a).sched.computedRow = s.sched.computedRow := by
  obtain ⟨-, hangle, hadvance, -⟩ := Sequencer.afterAngle_keeps b a s.seq
  by_cases hc : s.seq.completesTurn b a
  · obtain ⟨h1, h2, h3, -⟩ := State.completeTurn_sampled b { s with seq := s.seq.addAngle a }
    rcases State.sequenceSample_completing (v := v) hc with e | e <;> rw [e] <;> exact ⟨h1, h2, h3⟩
  · by_cases hd : s.seq.drive = .stopping
    · rw [State.sequenceSample_stopping hd, State.countStop_sched]
      obtain ⟨h1, h2, -⟩ := State.countStop_sums b v { s with seq := s.seq.afterAngle b a }
      exact ⟨h1.trans hangle, h2.trans hadvance, rfl⟩
    · rw [State.sequenceSample_standing hd hc]
      exact ⟨hangle, hadvance, rfl⟩

/-- R115: the drive states that the Drive Sequencer's part of a sample can leave. -/
theorem State.sequenceSample_drive (b : Bank) (v : Int) (a : Nat) (s : State) :
    (s.sequenceSample b v a).seq.drive = s.seq.drive ∨
    s.seq.completesTurn b a ∧
      ((s.sequenceSample b v a).seq.drive = .stopping ∨ (s.sequenceSample b v a).seq.drive = .tripped) ∨
    s.seq.drive = .stopping ∧
      ((s.sequenceSample b v a).seq.drive = .ready ∨ (s.sequenceSample b v a).seq.drive = .auxiliary) := by
  have hkept : ({ s with seq := s.seq.afterAngle b a } : State).seq.drive = s.seq.drive :=
    (Sequencer.afterAngle_keeps b a s.seq).1
  by_cases hc : s.seq.completesTurn b a
  · have hdrive := (State.completeTurn_sampled b { s with seq := s.seq.addAngle a }).2.2.2
    rcases State.sequenceSample_completing (v := v) hc with e | e <;> rw [e] <;> exact .inr (.inl ⟨hc, hdrive⟩)
  · by_cases hd : s.seq.drive = .stopping
    · rw [State.sequenceSample_stopping hd]
      rcases State.countStop_drive b v { s with seq := s.seq.afterAngle b a } with h | h
      · exact .inl (h.trans hkept)
      · exact .inr (.inr ⟨hd, h⟩)
    · rw [State.sequenceSample_standing hd hc]
      exact .inl hkept

/-! ## The four actions of a sample -/

/-- R75: what holds until the Drive Sequencer's part of a sample and what that part brings about, the other parts keeping both. -/
theorem State.deliverSpeed_sequences {P Q : State → Prop} (hdP : ∀ t, P t → P t.drawn) (hdQ : ∀ t, Q t → Q t.drawn)
    (hP : ∀ x ∈ [State.computeRow b v, State.achieveBreakaway b v, State.watchOverspeed b v], ∀ t, P t → P (x t))
    (hQ : ∀ x ∈ [State.computeRow b v, State.achieveBreakaway b v, State.watchOverspeed b v], ∀ t, Q t → Q (x t))
    (hseq : ∀ t, P t → Q (t.sequenceSample b v a)) (h : P s) : Q (s.deliverSpeed b v a) := by
  unfold State.deliverSpeed
  split
  · exact inAnyOrder_once hdP hdQ hseq 4 [State.computeRow b v, State.achieveBreakaway b v, State.watchOverspeed b v] [] s
      (by simp) (by simpa using hP) (by simpa using hQ) h
  · exact hseq _ (hP _ (by simp) _ (hP _ (by simp) _ (hP _ (by simp) _ h)))

/-- R75: what one part of a sample brings about and every part keeps. -/
theorem State.deliverSpeed_reaches {P Q : State → Prop} (hdP : ∀ t, P t → P t.drawn) (hdQ : ∀ t, Q t → Q t.drawn)
    (hP : ∀ x ∈ sampleActions b v a, ∀ t, P t → P (x t)) (hQ : ∀ x ∈ sampleActions b v a, ∀ t, Q t → Q (x t))
    {act : State → State} (hmem : act ∈ sampleActions b v a) (hact : ∀ t, P t → Q (act t)) (h : P s) :
    Q (s.deliverSpeed b v a) := by
  unfold State.deliverSpeed
  split
  · exact inAnyOrder_reaches hdP hdQ 4 _ s (Nat.le_refl _) hP hQ ⟨act, hmem, hact⟩ h
  · have hfold : ∀ (l : List (State → State)) (t : State), (∀ x ∈ l, x ∈ sampleActions b v a) → (Q t ∨ act ∈ l ∧ P t) →
        Q (l.foldl (fun t x => x t) t) := by
      intro l
      induction l with
      | nil => exact fun t _ ht => ht.elim id fun hmem => absurd hmem.1 (List.not_mem_nil)
      | cons x l ih =>
        intro t hl ht
        have hx := hl x List.mem_cons_self
        refine ih _ (fun y hy => hl y (List.mem_cons_of_mem _ hy)) ?_
        rcases ht with hq | ⟨hm, hp⟩
        · exact .inl (hQ x hx t hq)
        · rcases List.mem_cons.1 hm with rfl | hm
          · exact .inl (hact t hp)
          · exact .inr ⟨hm, hP x hx t hp⟩
    exact hfold _ s (fun _ hx => hx) (.inr ⟨hmem, h⟩)

end Sys2Proof.Machine
end

section
/-! PROOF. A take of the speed sample (O18) and the STOPPING confirmation (O38). -/

namespace Sys2Proof.Machine

variable {s t u : State} {f : RawFrame} {b : Bank} {e : SlotEntry} {v : Int} {a : Nat}

/-! ## What each part of a sample leaves to the Drive Sequencer's part -/

theorem State.watchOverspeed_below (h : v.natAbs ≤ b.dc.g0.overspeed) (t : State) : t.watchOverspeed b v = t :=
  if_neg (by simp [isOverspeed, h])

theorem State.watchOverspeed_sampled (b : Bank) (v : Int) (t : State) :
    (t.watchOverspeed b v).seq.lastAngle = t.seq.lastAngle ∧ (t.watchOverspeed b v).sched.computedRow = t.sched.computedRow := by
  unfold State.watchOverspeed
  split
  · obtain ⟨hangle, -, hrow⟩ := State.raiseCause_sampled .overspeed .nobody v t
    exact ⟨hangle, hrow⟩
  · exact ⟨rfl, rfl⟩

theorem State.watchOverspeed_drive (b : Bank) (v : Int) (t : State) :
    (t.watchOverspeed b v).seq.drive = t.seq.drive ∨ (t.watchOverspeed b v).seq.drive = .tripped := by
  unfold State.watchOverspeed
  split
  · exact State.raiseCause_drive _ _ _ t
  · exact .inl rfl

/-- R39: the computed row of a delivered sample. -/
theorem State.deliverSpeed_row (b : Bank) (v : Int) (a : Nat) (s : State) :
    (s.deliverSpeed b v a).sched.computedRow = rowOf b v := by
  refine State.deliverSpeed_reaches (P := fun _ => True) (Q := fun t => t.sched.computedRow = rowOf b v) (fun _ _ => trivial)
    (fun _ h => h) (fun _ _ _ _ => trivial) (fun x hx t h => ?_) (act := State.computeRow b v) (by simp [sampleActions])
    (fun _ _ => rfl) trivial
  simp only [sampleActions, List.mem_cons, List.not_mem_nil, or_false] at hx
  rcases hx with rfl | rfl | rfl | rfl
  · rfl
  · exact (congrArg Schedule.computedRow (t.achieveBreakaway_sched b v)).trans h
  · exact (t.watchOverspeed_sampled b v).2.trans h
  · exact (t.sequenceSample_sampled b v a).2.2.trans h

/-- R121: the last angle of a delivered sample. -/
theorem State.deliverSpeed_lastAngle (b : Bank) (v : Int) (a : Nat) (s : State) :
    (s.deliverSpeed b v a).seq.lastAngle = some a := by
  refine State.deliverSpeed_reaches (P := fun _ => True) (Q := fun t => t.seq.lastAngle = some a) (fun _ _ => trivial)
    (fun _ h => h) (fun _ _ _ _ => trivial) (fun x hx t h => ?_) (act := State.sequenceSample b v a) (by simp [sampleActions])
    (fun t _ => (t.sequenceSample_sampled b v a).1) trivial
  simp only [sampleActions, List.mem_cons, List.not_mem_nil, or_false] at hx
  rcases hx with rfl | rfl | rfl | rfl
  · exact h
  · exact (congrArg Sequencer.lastAngle (t.achieveBreakaway_seq b v)).trans h
  · exact (t.watchOverspeed_sampled b v).1.trans h
  · exact (t.sequenceSample_sampled b v a).1

theorem State.sequenceSample_tripped (h : t.seq.drive = .tripped) : (t.sequenceSample b v a).seq.drive = .tripped := by
  rcases t.sequenceSample_drive b v a with e | ⟨hc, -⟩ | ⟨hd, -⟩
  · exact e.trans h
  · cases hc.1.symm.trans h
  · cases hd.symm.trans h

theorem State.sequenceSample_not_blocked (h : t.seq.drive ≠ .blocked) : (t.sequenceSample b v a).seq.drive ≠ .blocked := by
  rcases t.sequenceSample_drive b v a with e | ⟨-, e | e⟩ | ⟨-, e | e⟩ <;> rw [e]
  · exact h
  all_goals exact nofun

/-- R75: OVERSPEED declares a trip in every state but BLOCKED. -/
theorem State.watchOverspeed_trips (hv : b.dc.g0.overspeed < v.natAbs) (h : t.seq.drive ≠ .blocked) :
    (t.watchOverspeed b v).seq.drive = .tripped := by
  unfold State.watchOverspeed
  rw [if_pos (by simp [isOverspeed, hv])]
  by_cases htripped : t.seq.drive = .tripped
  · rcases State.raiseCause_drive .overspeed .nobody v t with e | e
    · exact e.trans htripped
    · exact e
  · exact (t.raiseCause_tripped (c := .overspeed) rfl h htripped .nobody v).1

theorem State.deliverSpeed_trips (hv : b.dc.g0.overspeed < v.natAbs) (h : s.seq.drive ≠ .blocked) :
    (s.deliverSpeed b v a).seq.drive = .tripped := by
  refine State.deliverSpeed_reaches (P := fun t => t.seq.drive ≠ .blocked) (Q := fun t => t.seq.drive = .tripped)
    (fun _ h => h) (fun _ h => h) (fun x hx t h => ?_) (fun x hx t h => ?_) (act := State.watchOverspeed b v)
    (by simp [sampleActions]) (fun t h => t.watchOverspeed_trips hv h) h
  · simp only [sampleActions, List.mem_cons, List.not_mem_nil, or_false] at hx
    rcases hx with rfl | rfl | rfl | rfl
    · exact h
    · rw [t.achieveBreakaway_seq]; exact h
    · rw [t.watchOverspeed_trips hv h]; exact nofun
    · exact t.sequenceSample_not_blocked h
  · simp only [sampleActions, List.mem_cons, List.not_mem_nil, or_false] at hx
    rcases hx with rfl | rfl | rfl | rfl
    · exact h
    · rw [t.achieveBreakaway_seq]; exact h
    · exact (t.watchOverspeed_drive b v).elim (fun e => e.trans h) id
    · exact t.sequenceSample_tripped h

/-! ## A sample at or below overspeed -/

/-- Two states alike in all that the Drive Sequencer's part of a sample reads and writes, up to the computed row, the limiter and the
free choices. -/
structure SampleAlike (s t : State) : Prop where
  rp : t.rp = s.rp
  intake : t.intake = s.intake
  seq : t.seq = s.seq
  vib : t.vib = s.vib
  reg : t.reg = s.reg
  active : t.sched.active = s.sched.active
  pin : t.sched.pin = s.sched.pin

theorem SampleAlike.refl (s : State) : SampleAlike s s := ⟨rfl, rfl, rfl, rfl, rfl, rfl, rfl⟩

theorem SampleAlike.drawn (h : SampleAlike s t) : SampleAlike s t.drawn :=
  ⟨h.rp, h.intake, h.seq, h.vib, h.reg, h.active, h.pin⟩

theorem SampleAlike.computeRow (h : SampleAlike s t) : SampleAlike s (t.computeRow b v) :=
  ⟨h.rp, h.intake, h.seq, h.vib, h.reg, h.active, h.pin⟩

theorem SampleAlike.achieveBreakaway (h : SampleAlike s t) : SampleAlike s (t.achieveBreakaway b v) :=
  ⟨(t.achieveBreakaway_rp b v).trans h.rp, (t.achieveBreakaway_intake b v).trans h.intake, (t.achieveBreakaway_seq b v).trans h.seq,
    (t.achieveBreakaway_vib b v).trans h.vib, (t.achieveBreakaway_reg b v).trans h.reg,
    (congrArg Schedule.active (t.achieveBreakaway_sched b v)).trans h.active,
    (congrArg Schedule.pin (t.achieveBreakaway_sched b v)).trans h.pin⟩

/-- The actions of a sample but the Drive Sequencer's leave a state alike, at or below overspeed. -/
theorem SampleAlike.parts (hv : v.natAbs ≤ b.dc.g0.overspeed) (h : SampleAlike s t) :
    ∀ x ∈ [State.computeRow b v, State.achieveBreakaway b v, State.watchOverspeed b v], SampleAlike s (x t) := by
  intro x hx
  simp only [List.mem_cons, List.not_mem_nil, or_false] at hx
  rcases hx with rfl | rfl | rfl
  · exact h.computeRow
  · exact h.achieveBreakaway
  · rw [State.watchOverspeed_below hv]
    exact h

/-- R121: at or below overspeed a sample leaves a state like that of the Drive Sequencer's part, which starts from one like the state
before, with the old or the new computed row. -/
theorem State.deliverSpeed_alike (hv : v.natAbs ≤ b.dc.g0.overspeed) (s : State) : ∃ u, SampleAlike s u ∧
    (u.sched.computedRow = s.sched.computedRow ∨ u.sched.computedRow = rowOf b v) ∧
    SampleAlike (u.sequenceSample b v a) (s.deliverSpeed b v a) := by
  refine State.deliverSpeed_sequences
    (P := fun t => SampleAlike s t ∧ (t.sched.computedRow = s.sched.computedRow ∨ t.sched.computedRow = rowOf b v))
    (Q := fun t => ∃ u, SampleAlike s u ∧ (u.sched.computedRow = s.sched.computedRow ∨ u.sched.computedRow = rowOf b v) ∧
      SampleAlike (u.sequenceSample b v a) t)
    (fun t h => ⟨h.1.drawn, h.2⟩) (fun t ⟨u, h1, h2, h3⟩ => ⟨u, h1, h2, h3.drawn⟩) (fun x hx t h => ⟨h.1.parts hv x hx, ?_⟩)
    (fun x hx t ⟨u, h1, h2, h3⟩ => ⟨u, h1, h2, h3.parts hv x hx⟩) (fun t h => ⟨t, h.1, h.2, .refl _⟩) ⟨.refl s, .inl rfl⟩
  simp only [List.mem_cons, List.not_mem_nil, or_false] at hx
  rcases hx with rfl | rfl | rfl
  · exact .inr rfl
  · rw [t.achieveBreakaway_sched]
    exact h.2
  · rw [State.watchOverspeed_below hv]
    exact h.2

/-! ## The limiter -/

/-- R65: the limiter after a sample at or above moving_speed. -/
def Limiter.achieved (b : Bank) (v : Int) (l : Limiter) : Limiter :=
  if l.breakaway ≠ none ∧ b.dc.g1.movingSpeed ≤ v.natAbs then { l with breakaway := none, outcome := .achieved } else l

theorem State.achieveBreakaway_eq (b : Bank) (v : Int) (t : State) :
    t.achieveBreakaway b v = { t with lim := t.lim.achieved b v } := by
  unfold State.achieveBreakaway
  have hwith : ∀ l, t.lim.achieved b v = l → ({ t with lim := l } : State) = { t with lim := t.lim.achieved b v } :=
    fun l h => h ▸ rfl
  cases hb : t.lim.breakaway with
  | none => exact hwith t.lim (if_neg fun h => h.1 hb)
  | some n =>
    by_cases hm : b.dc.g1.movingSpeed ≤ v.natAbs
    · exact (if_pos hm).trans (hwith _ (if_pos ⟨by rw [hb]; exact nofun, hm⟩))
    · exact (if_neg hm).trans (hwith t.lim (if_neg fun h => hm h.2))

theorem Limiter.achieved_achieved (b : Bank) (v : Int) (l : Limiter) : (l.achieved b v).achieved b v = l.achieved b v := by
  unfold Limiter.achieved
  split
  · exact if_neg (fun h => h.1 rfl)
  · rfl

theorem State.sequenceSample_lim (h : ¬ t.seq.completesTurn b a) : (t.sequenceSample b v a).lim = t.lim := by
  by_cases hd : t.seq.drive = .stopping
  · rw [State.sequenceSample_stopping hd, State.countStop_lim]
  · rw [State.sequenceSample_standing hd h]

/-- R65: outside TURNING a sample at or below overspeed changes the limiter by the achieved allowance alone. -/
theorem State.deliverSpeed_lim (hv : v.natAbs ≤ b.dc.g0.overspeed) (h : s.seq.drive ≠ .turning) :
    (s.deliverSpeed b v a).lim = s.lim.achieved b v := by
  have hparts : ∀ (l : Limiter) (_ : l.achieved b v = s.lim.achieved b v), ∀ x ∈ sampleActions b v a, ∀ t : State,
      (t.seq.drive ≠ .turning ∧ (t.lim = l ∨ t.lim = s.lim.achieved b v)) →
      ((x t).seq.drive ≠ .turning ∧ ((x t).lim = l ∨ (x t).lim = s.lim.achieved b v)) := by
    intro l hl x hx t ⟨hdrive, hlim⟩
    simp only [sampleActions, List.mem_cons, List.not_mem_nil, or_false] at hx
    rcases hx with rfl | rfl | rfl | rfl
    · exact ⟨hdrive, hlim⟩
    · rw [t.achieveBreakaway_eq]
      refine ⟨hdrive, .inr ?_⟩
      rcases hlim with e | e
      · exact (congrArg (Limiter.achieved b v) e).trans hl
      · exact (congrArg (Limiter.achieved b v) e).trans (Limiter.achieved_achieved b v s.lim)
    · rw [State.watchOverspeed_below hv]
      exact ⟨hdrive, hlim⟩
    · rw [State.sequenceSample_lim (fun hc => hdrive hc.1)]
      refine ⟨?_, hlim⟩
      rcases t.sequenceSample_drive b v a with e | ⟨-, e | e⟩ | ⟨-, e | e⟩ <;> rw [e]
      · exact hdrive
      all_goals exact nofun
  have hlast := State.deliverSpeed_reaches (s := s) (b := b) (v := v) (a := a)
    (P := fun t => t.seq.drive ≠ .turning ∧ (t.lim = s.lim ∨ t.lim = s.lim.achieved b v))
    (Q := fun t => t.seq.drive ≠ .turning ∧ (t.lim = s.lim.achieved b v ∨ t.lim = s.lim.achieved b v))
    (fun _ h => h) (fun _ h => h) (hparts _ rfl) (hparts _ (Limiter.achieved_achieved b v s.lim))
    (act := State.achieveBreakaway b v) (by simp [sampleActions]) (fun t ht => by
      rw [t.achieveBreakaway_eq]
      refine ⟨ht.1, .inl ?_⟩
      rcases ht.2 with e | e
      · exact congrArg (Limiter.achieved b v) e
      · exact (congrArg (Limiter.achieved b v) e).trans (Limiter.achieved_achieved b v s.lim)) ⟨h, .inl rfl⟩
  exact hlast.2.elim id id

/-- R75: at or below overspeed, where the Drive Sequencer's part keeps the drive state, the four parts go one after the other. -/
theorem State.deliverSpeed_ordered (hv : v.natAbs ≤ b.dc.g0.overspeed) (h1 : s.seq.drive ≠ .stopping)
    (h2 : ¬ s.seq.completesTurn b a) : s.deliverSpeed b v a = { s with
      sched := { s.sched with computedRow := rowOf b v }
      lim := s.lim.achieved b v
      seq := s.seq.afterAngle b a } := by
  have hkeeps : (s.sequenceSample b v a).seq.drive = s.seq.drive := by
    rw [State.sequenceSample_standing h1 h2]
    exact (Sequencer.afterAngle_keeps b a s.seq).1
  have hfixed : ¬ s.sampleOrderMatters b v a = true := by
    simp [State.sampleOrderMatters, isOverspeed, hv, hkeeps]
  unfold State.deliverSpeed
  rw [if_neg hfixed]
  simp only [sampleActions, List.foldl_cons, List.foldl_nil]
  rw [State.watchOverspeed_below hv, State.achieveBreakaway_eq]
  exact State.sequenceSample_standing (s := { s.computeRow b v with lim := _ }) h1 h2

/-- R67, R122: a turn completed leaves no allowance. -/
theorem State.deliverSpeed_completes (hv : v.natAbs ≤ b.dc.g0.overspeed) (hc : s.seq.completesTurn b a)
    (hloss : s.intake.markLoss = false) : (s.deliverSpeed b v a).lim.breakaway = none := by
  refine State.deliverSpeed_sequences (P := fun t => SampleAlike s t) (Q := fun t => t.lim.breakaway = none)
    (fun _ h => h.drawn) (fun _ h => h) (fun x hx t h => h.parts hv x hx) (fun x hx t h => ?_) (fun t h => ?_) (.refl s)
  · simp only [List.mem_cons, List.not_mem_nil, or_false] at hx
    rcases hx with rfl | rfl | rfl
    · exact h
    · rw [t.achieveBreakaway_eq]
      exact (congrArg Limiter.breakaway (if_neg fun hb => hb.1 h)).trans h
    · rw [State.watchOverspeed_below hv]
      exact h
  · rw [State.sequenceSample_completes (by rw [h.seq]; exact hc) (by rw [h.intake]; exact hloss)]

/-! ## The take -/

/-- R125: the turn timer reloaded follows the drive state if hot. -/
theorem Sequencer.withInterval_turnTimer (b : Bank) (q : Sequencer) : (q.withInterval b).turnTimer =
    if q.hot = false then TurnTimer.idle
    else if q.drive = .ready ∨ q.drive = .auxiliary then .counting (b.dc.g1.turnInterval * 1000000)
    else .paused (b.dc.g1.turnInterval * 1000000) := by
  cases hhot : q.hot with
  | false => exact if_neg (by simp [hhot])
  | true =>
    refine (if_pos hhot).trans ?_
    by_cases hd : q.drive = .ready ∨ q.drive = .auxiliary
    · rw [TurnTimer.follow_counts hd, if_neg nofun, if_pos hd]
      rfl
    · rw [TurnTimer.follow_pauses (fun h => hd (.inl h)) (fun h => hd (.inr h)), if_neg nofun, if_neg hd]
      rfl

theorem Sequencer.withInterval_eq (b : Bank) (q : Sequencer) : q.withInterval b = { q with
    movement := 0
    turnTimer :=
      if q.hot = false then TurnTimer.idle
      else if q.drive = .ready ∨ q.drive = .auxiliary then .counting (b.dc.g1.turnInterval * 1000000)
      else .paused (b.dc.g1.turnInterval * 1000000)
    turnDue := false
    overdue := .stopped } := by
  rw [← Sequencer.withInterval_turnTimer]
  rfl

/-- R121, R126: the sums and the interval after a sample, field by field. -/
theorem Sequencer.afterAngle_eq (b : Bank) (a : Nat) (q : Sequencer) : q.afterAngle b a = { q.addAngle a with
    movement := if b.dc.g1.turnAngle ≤ (q.addAngle a).movement.natAbs then 0 else (q.addAngle a).movement
    turnTimer := if b.dc.g1.turnAngle ≤ (q.addAngle a).movement.natAbs then
      (if q.hot = false then TurnTimer.idle
        else if q.drive = .ready ∨ q.drive = .auxiliary then .counting (b.dc.g1.turnInterval * 1000000)
        else .paused (b.dc.g1.turnInterval * 1000000)) else q.turnTimer
    turnDue := if b.dc.g1.turnAngle ≤ (q.addAngle a).movement.natAbs then false else q.turnDue
    overdue := if b.dc.g1.turnAngle ≤ (q.addAngle a).movement.natAbs then .stopped else q.overdue } := by
  unfold Sequencer.afterAngle
  by_cases h : b.dc.g1.turnAngle ≤ (q.addAngle a).movement.natAbs
  · simp only [if_pos h]
    exact Sequencer.withInterval_eq b _
  · simp only [if_neg h]
    rfl

/-- R14: a take of a FRESH speed sample delivers it to a state that differs by the latch and the forwarded frame. -/
theorem exec_deliversSpeed (h : s.takesSample f b e) (hrole : e.role = .speed) {w0 w1 w2 : Word} (hp : f.payload = [w0, w1, w2])
    (hfresh : w0.getLsbD 0 = false) :
    ∃ w : State, exec (.sampleFrame f) s = .next (w.deliverSpeed b (e.condition w1.toInt) (bitsOf w2 0 12)) ∧
      w.rp = (s.forward f).rp ∧ w.sched = s.sched ∧ w.lim = s.lim ∧ w.reg = s.reg ∧ w.vib = s.vib ∧ w.seq = s.seq ∧
      w.intake = { s.intake with
        speed := ⟨e.condition w1.toInt, bitsOf w2 0 12, w0.getLsbD 0, ⟨if w0.getLsbD 0 then .bad else .fresh, true, 0, false⟩⟩ } := by
  refine ⟨{ s.forward f with intake := { (s.forward f).intake with speed := latchSpeed e w0 w1 w2 } },
    (exec_takesSpeed h hrole hp).trans (congrArg Host.Outcome.next (if_neg ?_)), rfl, s.forward_sched f, s.forward_lim f,
    s.forward_reg f, s.forward_vib f, s.forward_seq f, by rw [s.forward_intake f]; rfl⟩
  exact ne_true_of_eq_false hfresh

/-- Settles O18: the Drive Sequencer's part goes once, before or after parts that leave it as it is, but for OVERSPEED, which trips. -/
theorem speedTaken : Obligations.SpeedTaken := by
  intro s f b e w0 w1 w2 h hrole hp u v angle bad x angleStep movement advance completes moved restarted
  refine ⟨fun hbad => (exec_takesSpeed h hrole hp).trans (congrArg Host.Outcome.next (if_pos hbad)), fun hfresh => ?_⟩
  obtain ⟨w, hexec, -, -, hwlim, -, -, hwseq, hwintake⟩ := exec_deliversSpeed h hrole hp hfresh
  rw [hexec]
  change ∃ t, Host.Outcome.next (w.deliverSpeed b v angle) = _ ∧ _
  have hcompletes : w.seq.completesTurn b angle ↔ completes := by rw [hwseq]; exact Iff.rfl
  refine ⟨_, rfl, ?_, ?_, State.deliverSpeed_lastAngle b v angle w, fun hover hblocked => ?_,
    fun hbelow => ⟨?_, fun hc => ?_, fun hc hloss => ?_⟩⟩
  · rw [State.deliverSpeed_intake]
    exact hwintake
  · exact congrArg Fin.val (State.deliverSpeed_row b v angle w)
  · exact State.deliverSpeed_trips hover (hwseq ▸ hblocked)
  · obtain ⟨y, hy, -, halike⟩ := State.deliverSpeed_alike (a := angle) hbelow w
    rw [show (State.deliverSpeed b v angle w).seq = _ from halike.seq, (State.sequenceSample_sampled b v angle y).2.1,
      hy.seq, hwseq]
    rfl
  · refine ⟨?_, fun hd => ?_, fun hd => ?_⟩
    · have hlimit : (State.deliverSpeed b v angle w).lim = w.lim.achieved b v := by
        by_cases hturning : w.seq.drive = .turning
        · have hstop : w.seq.drive ≠ .stopping := fun hs => nomatch hturning.symm.trans hs
          rw [show State.deliverSpeed b v angle w = _ from State.deliverSpeed_ordered hbelow hstop (mt hcompletes.1 hc)]
        · exact State.deliverSpeed_lim hbelow hturning
      exact hlimit.trans (by rw [hwlim]; rfl)
    · rw [show State.deliverSpeed b v angle w = _ from
        State.deliverSpeed_ordered hbelow (by rw [hwseq]; exact hd) (mt hcompletes.1 hc)]
      rw [hwseq]
      exact Sequencer.afterAngle_eq b angle s.seq
    · obtain ⟨y, hy, -, halike⟩ := State.deliverSpeed_alike (a := angle) hbelow w
      have hyd : y.seq.drive = .stopping := by rw [hy.seq, hwseq]; exact hd
      rw [show (State.deliverSpeed b v angle w).seq = _ from halike.seq, State.sequenceSample_stopping hyd,
        (State.countStop_sums b v _).2.2]
      change (y.seq.afterAngle b angle).movement = _
      rw [hy.seq, hwseq, Sequencer.afterAngle_eq]
      rfl
  · have hwloss : w.intake.markLoss = false := by rw [hwintake]; exact hloss
    refine ⟨State.deliverSpeed_completes hbelow (hcompletes.2 hc) hwloss, ?_⟩
    obtain ⟨y, hy, -, halike⟩ := State.deliverSpeed_alike (a := angle) hbelow w
    rw [show (State.deliverSpeed b v angle w).seq = _ from halike.seq,
      State.sequenceSample_completes (by rw [hy.seq]; exact hcompletes.2 hc) (by rw [hy.intake]; exact hwloss)]
    dsimp only
    rw [hy.seq, hwseq, Sequencer.withInterval_eq]
    rfl

/-! ## The STOPPING confirmation (R88, R110, R120, R131) -/

theorem State.classify_active (h : s.classify f = some (b, e)) : s.sched.active = some b := by
  unfold State.classify at h
  split at h
  next b' k hb hk =>
    obtain ⟨e', -, he⟩ := Option.map_eq_some_iff.1 h
    rw [hb, (Prod.mk.inj he).1]
  next => exact absurd h nofun

theorem State.reformCeilings_channels (s : State) : s.reformCeilings.vib.channels = s.vib.channels := by
  unfold State.reformCeilings
  split <;> rfl

theorem State.mapChannels_channel (g : Fin 4 → Channel → Channel) (k : Fin 4) (s : State) :
    (s.mapChannels g).vib.channels[k] = g k s.vib.channels[k] := by
  match k with
  | 0 => rfl
  | 1 => rfl
  | 2 => rfl
  | 3 => rfl

/-- R110: what the STOPPING confirmation keeps of a channel's confirmation. -/
theorem Confirmation.onReady_eq (c : Confirmation) (latch : Bool) : c.onReady latch =
    ⟨if latch = true ∧ (c.state = .warning ∨ c.state = .alarm) then c.state else .normal, 0, 0, 0, 0, 0, false⟩ := by
  have hkept : (latch && (c.state == .warning || c.state == .alarm)) = true ↔
      latch = true ∧ (c.state = .warning ∨ c.state = .alarm) := by simp
  by_cases h : latch = true ∧ (c.state = .warning ∨ c.state = .alarm)
  · rw [if_pos h]
    exact congrArg (fun x => Confirmation.mk x 0 0 0 0 0 false) (if_pos (hkept.2 h))
  · rw [if_neg h]
    exact congrArg (fun x => Confirmation.mk x 0 0 0 0 0 false) (if_neg (mt hkept.1 h))

theorem State.vibrationOnReady_channel (hb : s.sched.active = some b) (k : Fin 4) :
    s.vibrationOnReady.vib.channels[k] = { s.vib.channels[k] with conf := s.vib.channels[k].conf.onReady b.dc.g2.vibLatch } := by
  unfold State.vibrationOnReady
  dsimp only
  rw [State.reformCeilings_channels, State.mapChannels_channel, hb]

/-- R87: the field reference of a block frame in READY. -/
theorem State.blockField_of_ready (hd : s.seq.drive = .ready) (hb : s.sched.active = some b) :
    s.blockField = b.speed[s.sched.rowInForce].fieldRef := by
  unfold State.blockField
  rw [hd, hb] <;> rfl

/-- R88: the Ring Port and the regulators after the STOPPING confirmation. -/
theorem State.confirmStop_blocks (s : State) : s.confirmStop.rp = (s.setDrive .ready).produceBlocks.rp ∧
    s.confirmStop.reg = ⟨s.reg.a.quiet, s.reg.b.quiet⟩ ∧
    s.confirmStop.vib = (s.setDrive .ready).leaveRunning.vibrationOnReady.vib := by
  unfold State.confirmStop
  dsimp only
  have hrp : (s.setDrive .ready).leaveRunning.vibrationOnReady.rp = (s.setDrive .ready).produceBlocks.rp := by
    rw [State.vibrationOnReady_rp, State.leaveRunning_eq]
  have hreg : (s.setDrive .ready).leaveRunning.vibrationOnReady.reg = ⟨s.reg.a.quiet, s.reg.b.quiet⟩ := by
    rw [State.vibrationOnReady_reg, State.leaveRunning_eq]
    rfl
  split
  · rw [State.judgeTakeover_rp, State.judgeTakeover_reg, State.judgeTakeover_vib]
    exact ⟨hrp, hreg, rfl⟩
  · exact ⟨hrp, hreg, rfl⟩

theorem State.confirmStop_channel (hb : s.sched.active = some b) (k : Fin 4) : s.confirmStop.vib.channels[k] =
    { s.vib.channels[k] with conf := s.vib.channels[k].conf.onReady b.dc.g2.vibLatch } := by
  have hactive : (s.setDrive .ready).leaveRunning.sched.active = some b := by
    rw [State.leaveRunning_sched]
    exact hb
  have hvib : (s.setDrive .ready).leaveRunning.vib = s.vib := by
    rw [State.leaveRunning_vib]
    rfl
  rw [s.confirmStop_blocks.2.2, State.vibrationOnReady_channel hactive, hvib]

/-- R120: with no takeover pending the confirmation leaves READY alone. -/
theorem State.confirmStop_seq_of_none (h : s.seq.pendingTakeover = false) : s.confirmStop.seq = (s.setDrive .ready).seq := by
  unfold State.confirmStop
  dsimp only
  rw [s.ready_seq, if_neg (show ¬ (s.setDrive .ready).seq.pendingTakeover = true by simp [State.setDrive, h])]
  exact s.ready_seq

/-- R131: a pending takeover is judged in READY. -/
theorem State.confirmStop_seq_of_pending {dest : Addr} (h : s.seq.pendingTakeover = true) (haux : s.auxAddr = some dest) :
    (s.seq.turnDue = true → s.confirmStop.seq.drive = .ready ∧ s.confirmStop.seq.grant = s.seq.grant ∧
      s.confirmStop.seq.outgoing = some (makeFrame dest s.rp.strap kindDecline s.cycleTag [1])) ∧
    (s.seq.turnDue = false → s.confirmStop.seq.drive = .auxiliary ∧ s.confirmStop.seq.grant = .granted ∧
      s.confirmStop.seq.outgoing = some (makeFrame dest s.rp.strap kindHandover s.cycleTag [])) := by
  unfold State.confirmStop
  dsimp only
  rw [s.ready_seq, if_pos (show (s.setDrive .ready).seq.pendingTakeover = true from h)]
  generalize hy : (s.setDrive .ready).leaveRunning.vibrationOnReady = y
  have hstrap : y.rp.strap = s.rp.strap := by
    rw [← hy, State.vibrationOnReady_rp, State.leaveRunning_strap]
    rfl
  have hcycle : y.cycleTag = s.cycleTag := by
    unfold State.cycleTag
    rw [← hy, State.vibrationOnReady_intake, State.leaveRunning_intake]
    rfl
  have hyaux : ∀ q : Sequencer, ({ y with seq := q } : State).auxAddr = some dest := by
    intro q
    unfold State.auxAddr at haux ⊢
    dsimp only
    rw [← hy, State.vibrationOnReady_sched, State.leaveRunning_sched]
    exact haux
  unfold State.judgeTakeover State.produceDecline State.produceHandover
  dsimp only [State.setDrive]
  refine ⟨fun hdue => ?_, fun hdue => ?_⟩
  · simp only [hdue, if_true]
    rw [State.produceAux_of_addr (hyaux _)]
    exact ⟨rfl, rfl, by rw [← hstrap, ← hcycle]; rfl⟩
  · simp only [hdue, Bool.false_eq_true, if_false]
    rw [State.produceAux_of_addr (hyaux _)]
    exact ⟨rfl, rfl, by rw [← hstrap, ← hcycle]; rfl⟩

/-- Settles O38: the count of R120 on the sums of R121, and the confirmation when it reaches stop_confirm. -/
theorem stopConfirmed : Obligations.StopConfirmed := by
  intro s f b e w0 w1 w2 h hrole hp hfresh hd v hbelow n angleStep due
  obtain ⟨w, hexec, hrp, hsched, -, hreg, hvib, hseq, hintake⟩ := exec_deliversSpeed h hrole hp hfresh
  obtain ⟨y, hy, hrow, halike⟩ := State.deliverSpeed_alike (a := bitsOf w2 0 12) hbelow w
  have hbank : s.sched.active = some b := State.classify_active h.2.1
  have hyseq : y.seq = s.seq := hy.seq.trans hseq
  have hydrive : y.seq.drive = .stopping := by rw [hyseq]; exact hd
  obtain ⟨hadrive, -, -, hastop, hapending, hagrant, haout⟩ := Sequencer.afterAngle_keeps b (bitsOf w2 0 12) y.seq
  have hyrp : y.rp = (s.forward f).rp := hy.rp.trans hrp
  have hyreg : y.reg = s.reg := hy.reg.trans hreg
  have hyvib : y.vib = s.vib := hy.vib.trans hvib
  have hybank : y.sched.active = some b := hy.active.trans (by rw [hsched]; exact hbank)
  rw [State.sequenceSample_stopping hydrive] at halike
  change exec (.sampleFrame f) s = .next (w.deliverSpeed b v (bitsOf w2 0 12)) at hexec
  rw [hexec]
  refine ⟨_, rfl, fun hmoving => ?_, fun hstill => ?_⟩
  · have hcount : State.countStop b v { y with seq := y.seq.afterAngle b (bitsOf w2 0 12) } =
        { y with seq := { y.seq.afterAngle b (bitsOf w2 0 12) with stopCount := 0 } } := if_neg (Nat.not_le.2 hmoving)
    rw [hcount] at halike
    exact ⟨halike.rp.trans hyrp, (congrArg Sequencer.drive halike.seq).trans (hadrive.trans hydrive),
      congrArg Sequencer.stopCount halike.seq,
      (congrArg Sequencer.pendingTakeover halike.seq).trans (hapending.trans (by rw [hyseq])), halike.vib.trans hyvib,
      halike.reg.trans hyreg⟩
  · have hn : bumpBy 10000 1 (y.seq.afterAngle b (bitsOf w2 0 12)).stopCount = n := by rw [hastop, hyseq]; rfl
    generalize hz : ({ y with seq := { y.seq.afterAngle b (bitsOf w2 0 12) with stopCount := n } } : State) = z
    have hzstop : z.seq.stopCount = n := by rw [← hz]
    have hcount : State.countStop b v { y with seq := y.seq.afterAngle b (bitsOf w2 0 12) } =
        if b.dc.g1.stopConfirm ≤ n then z.confirmStop else z := by
      rw [← hz, ← hn]
      exact if_pos hstill
    rw [hcount] at halike
    refine ⟨?_, fun hless => ?_, fun hreached => ?_⟩
    · refine (congrArg Sequencer.stopCount halike.seq).trans ?_
      split
      · exact (z.confirmStop_sums.2.2.2.1).trans hzstop
      · exact hzstop
    · rw [if_neg (Nat.not_le.2 hless), ← hz] at halike
      exact ⟨halike.rp.trans hyrp, (congrArg Sequencer.drive halike.seq).trans (hadrive.trans hydrive),
        (congrArg Sequencer.pendingTakeover halike.seq).trans (hapending.trans (by rw [hyseq])), halike.vib.trans hyvib,
        halike.reg.trans hyreg⟩
    · rw [if_pos hreached] at halike
      have hzbank : z.sched.active = some b := by rw [← hz]; exact hybank
      have hzpending : z.seq.pendingTakeover = s.seq.pendingTakeover := by rw [← hz, ← hyseq]; exact hapending
      have hzgrant : z.seq.grant = s.seq.grant := by rw [← hz, ← hyseq]; exact hagrant
      have hzout : z.seq.outgoing = s.seq.outgoing := by rw [← hz, ← hyseq]; exact haout
      have hzdue : z.seq.turnDue = true ↔ due := by
        rw [← hz]
        change (y.seq.afterAngle b (bitsOf w2 0 12)).turnDue = true ↔ _
        rw [hyseq, Sequencer.afterAngle_eq]
        change (if b.dc.g1.turnAngle ≤ (s.seq.movement + angleStep).natAbs then false else s.seq.turnDue) = true ↔ _
        by_cases hmoved : b.dc.g1.turnAngle ≤ (s.seq.movement + angleStep).natAbs
        · simp [due, hmoved]
        · simp [due, hmoved, Nat.lt_of_not_le hmoved]
      have hzcycle : z.cycleTag = f.tag := by
        rw [← hz]
        exact congrArg (·.getD 0) ((congrArg Intake.cycle (hy.intake.trans hintake)).trans h.2.2.1)
      have hzstrap : z.rp.strap = s.rp.strap := by
        rw [← hz]
        exact (congrArg RingPort.strap hyrp).trans (s.forward_strap f)
      have hzaux : z.auxAddr = s.auxAddr := by
        unfold State.auxAddr
        rw [hzbank, hbank]
      have hzrow : z.sched = y.sched := by rw [← hz]
      refine ⟨(congrArg Sequencer.pendingTakeover halike.seq).trans z.confirmStop_sums.2.2.2.2, ?_, ?_, fun k => ?_,
        fun hnone => ?_, fun hpending dest hdest => ?_⟩
      · have hjoins := State.produceBlocks_joins (s := z.setDrive .ready) (u := s.forward f) (by rw [← hz]; exact hyrp)
          (by rw [s.forward_sched, hbank]; exact hzbank)
        rw [show (z.setDrive .ready).cycleTag = f.tag from hzcycle,
          State.blockField_of_ready (s := z.setDrive .ready) rfl hzbank] at hjoins
        refine ⟨z.sched.rowInForce, ?_, by rw [halike.rp, z.confirmStop_blocks.1]; exact hjoins⟩
        have htpin : (w.deliverSpeed b v (bitsOf w2 0 12)).sched.pin = s.sched.pin := by
          rw [halike.pin, State.confirmStop_sched, hzrow, hy.pin, hsched]
        simp only [List.mem_cons, List.not_mem_nil, or_false]
        unfold Schedule.rowInForce
        rw [htpin, State.deliverSpeed_row, hzrow, hy.pin, hsched]
        rcases hrow with e | e <;> rw [e]
        · exact .inl (by rw [hsched])
        · exact .inr rfl
      · rw [halike.reg, z.confirmStop_blocks.2.1, ← hz]
        change (⟨y.reg.a.quiet, y.reg.b.quiet⟩ : PerMotor Regulator) = _
        rw [hyreg]
        rfl
      · rw [halike.vib, State.confirmStop_channel hzbank, Confirmation.onReady_eq, ← hz, ← hyvib]
      · rw [halike.seq, State.confirmStop_seq_of_none (hzpending.trans hnone)]
        exact ⟨rfl, hzgrant, hzout⟩
      · obtain ⟨hdecline, hhand⟩ := State.confirmStop_seq_of_pending (hzpending.trans hpending) (hzaux.trans hdest)
        rw [halike.seq, ← hzcycle, ← hzstrap, ← hzgrant]
        refine ⟨fun hdue => hdecline (hzdue.2 hdue), fun hdue => hhand ?_⟩
        exact Bool.eq_false_iff.2 (mt hzdue.1 hdue)

end Sys2Proof.Machine
end

section
/-! PROOF. The Intake at the events of a cycle, the mark timer (O23), and the accepted mark (O12, O13, O30, O34, O35). -/

namespace Sys2Proof.Machine

variable {s t u : State} {f : RawFrame} {b : Bank} {c : Instr}

/-! ## What the events of a cycle leave in the Intake (R16, R17) -/

theorem State.referenceEvent_intake (hb : s.sched.active = some b) :
    s.referenceEvent.intake = { s.intake with refMade := true } := by
  unfold State.referenceEvent
  rw [hb]
  dsimp only
  split
  · rw [State.splitEvent_intake]
  · rw [State.idleEvent_intake]

theorem State.reportRegulation_intake (m : Motor) (s : State) :
    (s.reportRegulation m).intake = { s.intake with regMade := s.intake.regMade.set m true } := by
  unfold State.reportRegulation
  dsimp only
  split
  · rw [State.produceEcho_intake]
  · rfl

theorem State.regulationEvent_intake (hb : s.sched.active = some b) (m : Motor) :
    (s.regulationEvent m).intake = { s.intake with regMade := s.intake.regMade.set m true } := by
  unfold State.regulationEvent
  rw [hb]
  dsimp only
  split
  · rw [State.reportRegulation_intake, State.measureTorque_intake, State.testOvercurrent_intake, State.regulate_intake]
  · rw [State.reportRegulation_intake, State.forgetTorque_intake, State.testOvercurrent_intake]

theorem State.regulateIf_intake (hb : s.sched.active = some b) (due : Bool) (m : Motor) : (s.regulateIf due m).intake =
    { s.intake with regMade := if due then s.intake.regMade.set m true else s.intake.regMade } := by
  cases due with
  | true => exact State.regulationEvent_intake hb m
  | false => rfl

/-- R16, R17: the regulation events made, in whichever order. -/
theorem State.regulateDue_intake (hb : s.sched.active = some b) (x y : Bool) : (s.regulateDue x y).intake =
    { s.intake with regMade := ⟨x || s.intake.regMade.a, y || s.intake.regMade.b⟩ } := by
  have hone : ∀ m : Motor, (s.drawn.regulationEvent m).sched.active = some b := fun m =>
    (s.drawn.regulationEvent_active m).trans hb
  have hif : ((s.regulateIf x .a).regulateIf y .b).intake =
      { s.intake with regMade := ⟨x || s.intake.regMade.a, y || s.intake.regMade.b⟩ } := by
    rw [State.regulateIf_intake ((s.regulateIf_active x .a).trans hb), State.regulateIf_intake hb]
    cases x <;> cases y <;> rfl
  cases x <;> cases y
  case true.true =>
    change (inEitherOrder (State.regulationEvent .a) (State.regulationEvent .b) s).intake = _
    rcases inEitherOrder_cases (State.regulationEvent .a) (State.regulationEvent .b) s with e | e <;>
      rw [e, State.regulationEvent_intake (hone _), State.regulationEvent_intake (s := s.drawn) hb] <;> rfl
  all_goals exact hif

theorem State.oweReference_intake (hb : s.sched.active = some b) : s.oweReference.intake = { s.intake with
    refMade := true
    regMade := if s.intake.refMade then s.intake.regMade else
      ⟨s.intake.arm.a.status.taken || s.intake.regMade.a, s.intake.arm.b.status.taken || s.intake.regMade.b⟩ } := by
  unfold State.oweReference
  cases hmade : s.intake.refMade with
  | true =>
    rw [if_pos rfl, if_pos rfl, ← hmade]
  | false =>
    rw [if_neg nofun, if_neg nofun, State.regulateDue_intake (s.referenceEvent_active.trans hb), State.referenceEvent_intake hb]

/-- R17: the Intake after a deadline expiry with a bank active. -/
theorem State.deadlineExpires_intake (hb : s.sched.active = some b) (hrun : s.intake.deadline.isRunning = true) :
    s.deadlineExpires.intake = { s.intake.missRoles b.dc.g1 with
      deadline := .expired, refMade := true, regMade := ⟨true, true⟩ } := by
  generalize hw : ({ s with intake := s.intake.missRoles b.dc.g1 } : State) = w
  have hwbank : w.raiseLosses.sched.active = some b := by rw [State.raiseLosses_active, ← hw]; exact hb
  have hexp : s.deadlineExpires = { w.raiseLosses.oweReference.oweRegulation with
      intake := { w.raiseLosses.oweReference.oweRegulation.intake with deadline := .expired } } := by
    unfold State.deadlineExpires
    rw [if_pos hrun, hb, ← hw]
  have howe : w.raiseLosses.oweReference.oweRegulation.intake =
      { w.intake with refMade := true, regMade := ⟨true, true⟩ } := by
    unfold State.oweRegulation
    rw [State.regulateDue_intake (by rw [State.oweReference_active]; exact hwbank), State.oweReference_intake hwbank,
      State.raiseLosses_intake]
    simp
  rw [hexp, howe, ← hw]

theorem State.deadlineExpires_idle (h : s.intake.deadline.isRunning = false) : s.deadlineExpires = s := if_neg (by simp [h])

/-- R17: a deadline expiry leaves the cycle, the mark timer and the slip count, and no deadline running. -/
theorem State.deadlineExpires_cycle (s : State) : s.deadlineExpires.intake.cycle = s.intake.cycle ∧
    s.deadlineExpires.intake.markTimer = s.intake.markTimer ∧ s.deadlineExpires.intake.slips = s.intake.slips ∧
    s.deadlineExpires.intake.deadline.isRunning = false := by
  by_cases hrun : s.intake.deadline.isRunning = true
  · cases hb : s.sched.active with
    | some b =>
      rw [State.deadlineExpires_intake hb hrun]
      exact ⟨rfl, rfl, rfl, rfl⟩
    | none =>
      have hexp : s.deadlineExpires = { s with intake := { s.intake with deadline := .expired } } := by
        unfold State.deadlineExpires
        rw [if_pos hrun, hb]
      rw [hexp]
      exact ⟨rfl, rfl, rfl, rfl⟩
  · rw [State.deadlineExpires_idle (Bool.eq_false_iff.2 hrun)]
    exact ⟨rfl, rfl, rfl, Bool.eq_false_iff.2 hrun⟩

/-! ## The mark timer (R19) -/

theorem State.markTimerExpires_of_running {us : Nat} (h : s.intake.markTimer = .running us) : s.markTimerExpires =
    State.raiseMarkTimeout { s.deadlineExpires with
      intake := { s.deadlineExpires.intake with markLoss := true, markTimer := .stopped } } := by
  unfold State.markTimerExpires
  rw [h]

theorem DriveState.isRunning_cases {d : DriveState} (h : d.isRunning = true) : d = .running ∨ d = .turning ∨ d = .stopping := by
  cases d
  case running => exact .inl rfl
  case turning => exact .inr (.inl rfl)
  case stopping => exact .inr (.inr rfl)
  all_goals exact absurd h nofun

theorem State.raiseMarkTimeout_trips (h : s.seq.drive.isRunning = true ∨ s.seq.drive = .tripped) :
    s.raiseMarkTimeout = s.raiseCause .cycleLost .nobody 0 := by
  rcases h with h | e
  · rcases DriveState.isRunning_cases h with e | e | e <;> simp only [State.raiseMarkTimeout, e]
  · simp only [State.raiseMarkTimeout, e]

theorem State.raiseMarkTimeout_notes (h : s.seq.drive = .blocked ∨ s.seq.drive = .ready ∨ s.seq.drive = .auxiliary) :
    s.raiseMarkTimeout = s.raiseAttention ⟨.linkQuality, 0, .nobody, 0⟩ := by
  rcases h with e | e | e <;> simp only [State.raiseMarkTimeout, e]

/-- R19, R142, R159: CYCLE_LOST raised in TRIPPED stands. -/
theorem State.raiseCause_cycleLost (h : s.seq.drive = .tripped) :
    (s.raiseCause .cycleLost .nobody 0).tru.standing.cycleLost = true := by
  obtain ⟨-, hknown, hlisted, hdropped, -⟩ := (raiseTable s .cycleLost .nobody 0).2.2.2.2.2 rfl h rfl
  by_cases hk : (∃ r, s.tru.first = some r ∧ r.cause = .cycleLost) ∨ ∃ age, (Cause.cycleLost, age) ∈ s.tru.later
  · rw [(hknown hk).1]
    rfl
  · by_cases hlen : s.tru.later.length < 4
    · rw [(hlisted hk hlen).1]
      rfl
    · rw [(hdropped hk (Nat.le_of_not_lt hlen)).1]
      rfl

/-- Settles O23: an owed deadline expiry goes first, and what it leaves owes none. -/
theorem markTimerExpires : Obligations.MarkTimerExpires := by
  intro s us htimer
  have hexec : exec .markTimerExpiry s = .next (State.raiseMarkTimeout { s.deadlineExpires with
      intake := { s.deadlineExpires.intake with markLoss := true, markTimer := .stopped } }) :=
    congrArg Host.Outcome.next (State.markTimerExpires_of_running htimer)
  refine ⟨fun hrun => ?_, fun hidle => ?_⟩
  · obtain ⟨-, hkept, -, hnone⟩ := s.deadlineExpires_cycle
    refine ⟨s.deadlineExpires, rfl, ?_, hkept.trans htimer, ?_⟩
    · unfold State.deadlineExpires
      rw [if_pos hrun]
    · rw [hexec]
      refine congrArg Host.Outcome.next ((State.markTimerExpires_of_running (hkept.trans htimer)).trans ?_).symm
      rw [State.deadlineExpires_idle hnone]
  · rw [State.deadlineExpires_idle hidle] at hexec
    intro u
    refine ⟨fun hd => hexec.trans (congrArg Host.Outcome.next (State.raiseMarkTimeout_notes (s := u) hd)), fun hd => ?_, fun hd => ?_⟩
    · have hraise : u.raiseMarkTimeout = u.raiseCause .cycleLost .nobody 0 := State.raiseMarkTimeout_trips (s := u) (.inl hd)
      have h1 : u.seq.drive ≠ .blocked := fun e => nomatch (congrArg DriveState.isRunning e).symm.trans hd
      have h2 : u.seq.drive ≠ .tripped := fun e => nomatch (congrArg DriveState.isRunning e).symm.trans hd
      obtain ⟨hdrive, htru, -⟩ := u.raiseCause_tripped (c := .cycleLost) rfl h1 h2 .nobody 0
      exact ⟨_, hexec.trans (congrArg Host.Outcome.next hraise), u.raiseCause_intake _ _ _, hdrive, by rw [htru]; rfl⟩
    · have hraise : u.raiseMarkTimeout = u.raiseCause .cycleLost .nobody 0 := State.raiseMarkTimeout_trips (s := u) (.inr hd)
      obtain ⟨hseq, -, -, -, hcapture⟩ := (raiseTable u .cycleLost .nobody 0).2.2.2.2.2 rfl hd rfl
      refine ⟨_, hexec.trans (congrArg Host.Outcome.next hraise), rfl, u.raiseCause_intake _ _ _, hseq,
        State.raiseCause_cycleLost (s := u) hd, fun k hk hfirst => ?_⟩
      obtain ⟨htruncated, hdone, -⟩ := hcapture k hk hfirst
      exact ⟨htruncated, hdone⟩

end Sys2Proof.Machine
end

section
/-! PROOF. What an accepted mark does before and after the new cycle opens. -/

namespace Sys2Proof.Machine

variable {s t u x : State} {f : RawFrame} {b : Bank} {c : Instr}

/-! ## What the actions of a mark keep -/

/-- What the actions at a mark leave as it was, a trip that they may declare among them. -/
structure MarkKept (x t : State) : Prop where
  intake : t.intake = x.intake
  split : t.split = x.split
  accA : t.reg.a.acc = x.reg.a.acc
  accB : t.reg.b.acc = x.reg.b.acc
  history : t.recorder.history = x.recorder.history
  marker : t.recorder.marker = x.recorder.marker
  active : t.sched.active = x.sched.active
  staged : t.sched.staged = x.sched.staged
  dirty : t.sched.dirty = x.sched.dirty
  generation : t.sched.generation = x.sched.generation
  activation : x.sched.activation = none → t.sched.activation = none ∧ t.rqh = x.rqh

theorem MarkKept.refl (x : State) : MarkKept x x := ⟨rfl, rfl, rfl, rfl, rfl, rfl, rfl, rfl, rfl, rfl, fun h => ⟨h, rfl⟩⟩

theorem MarkKept.trans (h : MarkKept x t) (g : MarkKept t u) : MarkKept x u where
  intake := g.intake.trans h.intake
  split := g.split.trans h.split
  accA := g.accA.trans h.accA
  accB := g.accB.trans h.accB
  history := g.history.trans h.history
  marker := g.marker.trans h.marker
  active := g.active.trans h.active
  staged := g.staged.trans h.staged
  dirty := g.dirty.trans h.dirty
  generation := g.generation.trans h.generation
  activation hn := ⟨(g.activation (h.activation hn).1).1, (g.activation (h.activation hn).1).2.trans (h.activation hn).2⟩

theorem MarkKept.of_eq (hintake : t.intake = x.intake) (hsplit : t.split = x.split) (hreg : t.reg = x.reg)
    (hrecorder : t.recorder = x.recorder) (hsched : t.sched = x.sched) (hrqh : t.rqh = x.rqh) : MarkKept x t :=
  ⟨hintake, hsplit, by rw [hreg], by rw [hreg], by rw [hrecorder], by rw [hrecorder], by rw [hsched], by rw [hsched], by rw [hsched],
    by rw [hsched], fun h => ⟨by rw [hsched]; exact h, hrqh⟩⟩

/-- The ring and the pending marker, which a record's changes leave as they are. -/
def Recorder.ring (r : Recorder) : List Snapshot × Option Nat := (r.history, r.marker)

theorem State.updateTripHeader_ring (g : Header → Header) (s : State) :
    (s.updateTripHeader g).recorder.ring = s.recorder.ring := by
  unfold State.updateTripHeader
  split
  · rfl
  · split <;> rfl

theorem State.truncateCapture_ring (s : State) : s.truncateCapture.recorder.ring = s.recorder.ring := by
  unfold State.truncateCapture
  split
  · rfl
  · rw [State.raiseAttention_recorder]
    rfl

theorem State.cycleLostTruncates_ring (c : Cause) (s : State) : (s.cycleLostTruncates c).recorder.ring = s.recorder.ring := by
  unfold State.cycleLostTruncates
  split
  · exact s.truncateCapture_ring
  · rfl

theorem State.laterCause_ring (r : CauseRecord) (s : State) : (s.laterCause r).recorder.ring = s.recorder.ring := by
  unfold State.laterCause
  dsimp only
  split
  · exact s.cycleLostTruncates_ring _
  · split
    · split
      · refine (inEitherOrder_field (fun t => t.recorder.ring) (fun _ => rfl) (fun t => ?_) State.truncateCapture_ring _).trans
          (State.updateTripHeader_ring _ _)
        rw [State.raiseAttention_recorder]
      · rw [State.raiseAttention_recorder]
        exact State.updateTripHeader_ring _ _
    · exact (State.cycleLostTruncates_ring _ _).trans (State.updateTripHeader_ring _ _)

theorem State.startCapture_ring (r : CauseRecord) (s : State) : (s.startCapture r).1.ring = s.recorder.ring := by
  unfold State.startCapture
  split <;> rfl

theorem State.answerActivation_of_none {r : ResultCode} (h : s.sched.activation = none) : (s.answerActivation r).rqh = s.rqh := by
  unfold State.answerActivation
  rw [h]

theorem MarkKept.declareTrip (r : CauseRecord) (x : State) : MarkKept x (x.declareTrip r) := by
  have hring : (x.declareTrip r).recorder.ring = x.recorder.ring := by
    rw [State.declareTrip_eq]
    exact x.startCapture_ring r
  have hacc : ∀ m : Motor, ((x.declareTrip r).reg.get m).acc = (x.reg.get m).acc := by
    intro m
    rw [State.declareTrip_eq]
    dsimp only
    split
    · cases m <;> rfl
    · rfl
  have hsched : (x.declareTrip r).sched = { x.sched with pin := none, activation := none } := by rw [State.declareTrip_eq]
  refine ⟨x.declareTrip_intake r, x.declareTrip_split r, hacc .a, hacc .b, congrArg Prod.fst hring, congrArg Prod.snd hring,
    by rw [hsched], by rw [hsched], by rw [hsched], by rw [hsched], fun h => ⟨by rw [hsched], ?_⟩⟩
  have hrqh : (x.declareTrip r).rqh = (x.answerActivation .cancelled).rqh := by rw [State.declareTrip_eq]
  exact hrqh.trans (State.answerActivation_of_none h)

theorem MarkKept.laterCause (r : CauseRecord) (x : State) : MarkKept x (x.laterCause r) := by
  have hring := x.laterCause_ring r
  have hrest : (x.laterCause r).intake = x.intake ∧ (x.laterCause r).split = x.split ∧ (x.laterCause r).reg = x.reg ∧
      (x.laterCause r).sched = x.sched ∧ (x.laterCause r).rqh = x.rqh := by
    rw [State.laterCause_eq]
    exact ⟨rfl, rfl, rfl, rfl, rfl⟩
  obtain ⟨hintake, hsplit, hreg, hsched, hrqh⟩ := hrest
  exact ⟨hintake, hsplit, by rw [hreg], by rw [hreg], congrArg Prod.fst hring, congrArg Prod.snd hring, by rw [hsched],
    by rw [hsched], by rw [hsched], by rw [hsched], fun h => ⟨by rw [hsched]; exact h, hrqh⟩⟩

/-- R142: whatever a raise does, it keeps what a mark keeps. -/
theorem MarkKept.raiseCause (c : Cause) (who : Who) (detail : Int) (x : State) : MarkKept x (x.raiseCause c who detail) := by
  have hflag : MarkKept x { x with tru := { x.tru with standing := x.tru.standing.raised c } } :=
    .of_eq rfl rfl rfl rfl rfl rfl
  rcases x.raiseCause_cases c who detail with e | ⟨-, -, e⟩ | ⟨-, -, e⟩ | ⟨-, -, -, e⟩ <;> rw [e]
  · exact hflag
  · exact hflag.trans (.of_eq (State.reportCause_intake ..) (State.reportCause_split ..) (State.reportCause_reg ..)
      (State.reportCause_recorder ..) (State.reportCause_sched ..) (State.reportCause_rqh ..))
  · exact hflag.trans (.laterCause _ _)
  · exact hflag.trans (.declareTrip _ _)

/-- R71: the Torque Limiter's own state after its part of a mark, before the allowance is counted. -/
def State.limMarked (s : State) : Limiter :=
  { s.lim with
    motor := ⟨s.lim.motor.a.marked, s.lim.motor.b.marked⟩
    shocks := match s.sched.active with
      | none => s.lim.shocks
      | some b => ageShocks b.dc.g0.shockWindow s.lim.shocks }

theorem State.limiterMark_eq (s : State) : s.limiterMark = State.countBreakaway { s with lim := s.limMarked } := rfl

theorem MarkKept.limiterMark (x : State) : MarkKept x x.limiterMark := by
  rw [State.limiterMark_eq]
  have hmarked : MarkKept x { x with lim := x.limMarked } := .of_eq rfl rfl rfl rfl rfl rfl
  refine hmarked.trans ?_
  unfold State.countBreakaway
  split
  · exact .refl _
  · split
    · exact .trans (t := { x with lim := { x.limMarked with breakaway := none, outcome := .expired } })
        (.of_eq rfl rfl rfl rfl rfl rfl) (.raiseCause ..)
    · exact .of_eq rfl rfl rfl rfl rfl rfl

theorem MarkKept.markDriveFrames (x : State) : MarkKept x x.markDriveFrames :=
  .of_eq x.markDriveFrames_intake x.markDriveFrames_split x.markDriveFrames_reg x.markDriveFrames_recorder x.markDriveFrames_sched
    x.markDriveFrames_rqh

/-- R71, R87, R138: what the actions of a mark keep, in whichever order. -/
theorem MarkKept.markActions (x : State) : MarkKept x x.markActions := by
  unfold State.markActions
  have htrip : ∀ t : State, MarkKept t t.tripMark := fun _ => .of_eq rfl rfl rfl rfl rfl rfl
  split
  · refine inAnyOrder_keeps (P := MarkKept x) (fun t h => h.trans (.of_eq rfl rfl rfl rfl rfl rfl)) 3 _ x (fun act hact t h => ?_)
      (.refl x)
    simp only [List.mem_cons, List.not_mem_nil, or_false] at hact
    rcases hact with rfl | rfl | rfl
    · exact h.trans (htrip t)
    · exact h.trans (.limiterMark t)
    · exact h.trans (.markDriveFrames t)
  · exact (htrip x).trans ((MarkKept.limiterMark _).trans (.markDriveFrames _))

/-! ## The state in which the new cycle stands open -/

/-- R12, R13: a mark up to the opening of the new cycle. -/
def State.cycleOpened (tag : Word) (s : State) : State :=
  (State.closeCycle { s with intake := s.intake.countSlip tag }).openCycle tag

/-- R12: every frame command carries the mark out. -/
theorem exec_mark (hc : c ∈ frameCommands f) (h : s.hearsMark f) :
    exec c s = .next ((s.forward f).cycleOpened f.tag).markActions := by
  obtain ⟨hhears, hkind, hsource⟩ := h
  rw [exec_frameCommand hc, s.receiveFrame_hears hhears, State.readBroadcast, if_pos hkind, if_pos hsource]
  rfl

theorem Intake.countSlip_eq (i : Intake) (tag : Word) : i.countSlip tag = { i with slips := match i.cycle with
    | none => i.slips
    | some p => if tag = p + 1 then i.slips else min 65535 (i.slips + 1) } := by
  rcases i with ⟨_ | p⟩
  · rfl
  · by_cases h : tag = p + 1
    · simp only [Intake.countSlip, if_pos h]
    · simp only [Intake.countSlip, if_neg h]
      rfl

theorem State.writeSnapshot_of_none (h : s.intake.cycle = none) : s.writeSnapshot = s := by
  unfold State.writeSnapshot
  rw [h]

/-- R13: a cycle closed with no deadline expiry owed. -/
theorem State.closeCycle_idle (h : s.intake.deadline.isRunning = false) : s.closeCycle = s.writeSnapshot.pendingSwap := by
  unfold State.closeCycle
  cases hcycle : s.intake.cycle with
  | none => rw [State.writeSnapshot_of_none hcycle]
  | some p => rw [State.deadlineExpires_idle h]

/-- R13: what closing a cycle leaves of the Intake in every case. -/
theorem State.closeCycle_timers (s : State) :
    s.closeCycle.intake.markTimer = s.intake.markTimer ∧ s.closeCycle.intake.slips = s.intake.slips := by
  unfold State.closeCycle
  split
  · rw [State.pendingSwap_intake]
    exact ⟨rfl, rfl⟩
  · rw [State.pendingSwap_intake, State.writeSnapshot_intake]
    exact ⟨s.deadlineExpires_cycle.2.1, s.deadlineExpires_cycle.2.2.1⟩

/-- R13: the new cycle opened with no deadline expiry owed: the state after the swap, the cycle's flags cleared. -/
theorem State.cycleOpened_idle {tag : Word} (h : s.intake.deadline.isRunning = false) : s.cycleOpened tag =
    ({ s with intake := s.intake.countSlip tag } : State).writeSnapshot.pendingSwap.openCycle tag := by
  have hidle : (s.intake.countSlip tag).deadline.isRunning = false := by
    rw [Intake.countSlip_eq]
    exact h
  exact congrArg (State.openCycle tag) (State.closeCycle_idle (s := { s with intake := s.intake.countSlip tag }) hidle)

/-- R13: what an opened cycle keeps where no deadline expiry was owed. -/
theorem State.cycleOpened_keeps {tag : Word} (h : s.intake.deadline.isRunning = false) :
    (s.cycleOpened tag).rp = s.rp ∧ (s.cycleOpened tag).seq = s.seq ∧ (s.cycleOpened tag).tru = s.tru ∧
      (s.cycleOpened tag).lim = { s.lim with breakawayAtRef := false } ∧
      (s.cycleOpened tag).intake = (s.intake.countSlip tag).opened tag (s.cycleOpened tag).sched.active := by
  rw [State.cycleOpened_idle h]
  refine ⟨?_, ?_, ?_, ?_, ?_⟩
  · rw [State.openCycle_rp, State.pendingSwap_rp, State.writeSnapshot_rp]
  · rw [State.openCycle_seq, State.pendingSwap_seq, State.writeSnapshot_seq]
  · rw [State.openCycle_tru, State.pendingSwap_tru, State.writeSnapshot_tru]
  · unfold State.openCycle
    dsimp only
    rw [State.pendingSwap_lim, State.writeSnapshot_lim]
  · unfold State.openCycle
    dsimp only
    rw [State.pendingSwap_intake, State.writeSnapshot_intake]

/-! ## The actions where no allowance expires -/

theorem State.markActions_ordered (h : s.lim.breakawayExpiring = false) :
    s.markActions = s.tripMark.limiterMark.markDriveFrames := if_neg (by simp [h])

theorem State.limiterMark_of_none (h : s.lim.breakaway = none) : s.limiterMark = { s with lim := s.limMarked } := by
  rw [State.limiterMark_eq]
  unfold State.countBreakaway
  rw [show ({ s with lim := s.limMarked } : State).lim.breakaway = none from h]

theorem State.limiterMark_of_some {n : Nat} (h : s.lim.breakaway = some (n + 2)) :
    s.limiterMark = { s with lim := { s.limMarked with breakaway := some (n + 1) } } := by
  rw [State.limiterMark_eq]
  unfold State.countBreakaway
  rw [show ({ s with lim := s.limMarked } : State).lim.breakaway = some (n + 2) from h]
  exact if_neg (by omega)

/-- R87, R138, R71: the state after a mark with no allowance running. -/
theorem State.markActions_of_none (h : s.lim.breakaway = none) :
    s.markActions = State.markDriveFrames { s.tripMark with lim := s.limMarked } := by
  have hnone : s.lim.breakawayExpiring = false := by
    unfold Limiter.breakawayExpiring
    rw [h]
  rw [State.markActions_ordered hnone, State.limiterMark_of_none (s := s.tripMark) h]
  rfl

end Sys2Proof.Machine
end

section
/-! PROOF. The statements about an accepted mark: O12, O13, O30, O34 and O35. -/

namespace Sys2Proof.Machine

variable {s t u x : State} {f : RawFrame} {b : Bank} {c : Instr}

/-! ## The mark opens the cycle (O12) -/

/-- R87: the field reference of a block frame, by the bank and the drive state. -/
theorem State.blockField_eq (s : State) : s.blockField = match s.sched.active with
    | none => 0
    | some b => if s.seq.drive = .ready ∨ s.seq.drive = .auxiliary then b.speed[s.sched.rowInForce].fieldRef else 0 := by
  unfold State.blockField
  cases hb : s.sched.active with
  | none => cases s.seq.drive <;> rfl
  | some b => cases hd : s.seq.drive <;> rfl

/-- R87: the frames of a mark with no allowance running and no deadline expiry owed. -/
theorem State.markActions_frames {tag : Word} (hidle : u.intake.deadline.isRunning = false) (hnone : u.lim.breakaway = none) :
    let t := (u.cycleOpened tag).markActions
    t.sched = (u.cycleOpened tag).sched ∧ t.seq = u.seq ∧
      (u.seq.drive.isRunning = true → t.rp = u.rp) ∧
      (u.seq.drive.isRunning = false → ({ u with sched := t.sched } : State).blocksJoin tag
        (State.blockField { u with sched := t.sched }) t.rp) := by
  intro t
  obtain ⟨hrp, hseq, -, hlim, hintake⟩ := State.cycleOpened_keeps (tag := tag) hidle
  have hnone' : (u.cycleOpened tag).lim.breakaway = none := by rw [hlim]; exact hnone
  have ht : t = State.markDriveFrames { (u.cycleOpened tag).tripMark with lim := (u.cycleOpened tag).limMarked } :=
    State.markActions_of_none hnone'
  generalize hz : ({ (u.cycleOpened tag).tripMark with lim := (u.cycleOpened tag).limMarked } : State) = z at ht
  have hzseq : z.seq = u.seq := by rw [← hz]; exact hseq
  have hzrp : z.rp = u.rp := by rw [← hz]; exact hrp
  have hzsched : z.sched = (u.cycleOpened tag).sched := by rw [← hz]; rfl
  have hzcycle : z.cycleTag = tag := by
    rw [← hz]
    exact congrArg (fun i : Intake => i.cycle.getD 0) hintake
  have htsched : t.sched = z.sched := by rw [ht, State.markDriveFrames_sched]
  refine ⟨htsched.trans hzsched, by rw [ht, State.markDriveFrames_seq, hzseq], fun hrun => ?_, fun hrun => ?_⟩
  · rw [ht]
    unfold State.markDriveFrames
    rw [hzseq, if_pos hrun, hzrp]
  · have hjoins := State.produceBlocks_joins (s := z) (u := { u with sched := t.sched }) hzrp (by rw [htsched])
    have hfield : z.blockField = State.blockField { u with sched := t.sched } := by
      unfold State.blockField
      rw [hzseq, htsched]
    have hrp : t.rp = z.produceBlocks.rp := by
      rw [ht]
      unfold State.markDriveFrames
      rw [hzseq, if_neg (by simp [hrun])]
    rw [hzcycle, hfield, ← hrp] at hjoins
    exact hjoins

/-- Settles O12: the cycle opened after the close, and the drive frames of the mark by the drive state. -/
theorem markOpensCycle : Obligations.MarkOpensCycle := by
  intro s f c hc h
  rw [exec_mark hc h]
  have hintake : (s.forward f).intake = s.intake := s.forward_intake f
  have hkept := MarkKept.markActions ((s.forward f).cycleOpened f.tag)
  have htimers := State.closeCycle_timers { s.forward f with intake := (s.forward f).intake.countSlip f.tag }
  rw [hintake, Intake.countSlip_eq] at htimers
  have hopen : ((s.forward f).cycleOpened f.tag).intake = Intake.opened
      (State.closeCycle { s.forward f with intake := s.intake.countSlip f.tag }).intake f.tag
      ((s.forward f).cycleOpened f.tag).sched.active := by
    rw [← hintake]
    rfl
  rw [Intake.countSlip_eq] at hopen
  refine ⟨_, rfl, ?_⟩
  rw [hkept.intake, hkept.active, hopen]
  refine ⟨rfl, htimers.2, ?_, rfl, rfl, rfl, rfl, rfl, rfl, rfl, fun hidle => ?_, fun hidle hnone => ?_⟩
  · cases ((s.forward f).cycleOpened f.tag).sched.active with
    | none => exact ⟨rfl, htimers.1⟩
    | some b => exact ⟨rfl, rfl⟩
  · obtain ⟨-, -, -, -, hsame⟩ := State.cycleOpened_keeps (s := s.forward f) (tag := f.tag) (by rw [hintake]; exact hidle)
    rw [← hopen, hsame, hintake, Intake.countSlip_eq]
    exact ⟨rfl, rfl, rfl⟩
  · obtain ⟨-, hseq, hrunning, hblocks⟩ := State.markActions_frames (u := s.forward f) (tag := f.tag)
      (by rw [hintake]; exact hidle) (by rw [s.forward_lim]; exact hnone)
    have hdrive : (s.forward f).seq.drive = s.seq.drive := congrArg Sequencer.drive (s.forward_seq f)
    rw [hdrive] at hrunning hblocks
    refine ⟨(congrArg Sequencer.drive hseq).trans hdrive, hrunning, fun hrun => ?_⟩
    have hjoins := hblocks hrun
    rw [State.blockField_eq] at hjoins
    dsimp only at hjoins
    rw [hkept.active, hdrive] at hjoins
    exact hjoins

/-! ## The snapshot (O13) -/

theorem State.writeSnapshot_eq (hcycle : s.intake.cycle ≠ none) (hb : s.sched.active = some b) : s.writeSnapshot =
    State.appendToCapture s.snapshot b.dc.g3.postDepth { s with recorder := { s.recorder with
      history := pushHistory s.recorder.history s.snapshot
      marker := none } } := by
  obtain ⟨p, hp⟩ := Option.ne_none_iff_exists'.1 hcycle
  unfold State.writeSnapshot
  rw [hp, hb]

theorem State.appendToCapture_ring (p : Snapshot) (n : Nat) (s : State) :
    (s.appendToCapture p n).recorder.ring = s.recorder.ring := by
  unfold State.appendToCapture
  split
  · rfl
  · dsimp only
    split
    · rw [State.raiseAttention_recorder]
      rfl
    · rfl

/-- R158: with no capture in progress a snapshot changes no slot. -/
theorem State.appendToCapture_of_none {p : Snapshot} {n : Nat} (h : ∀ k : Fin 8, s.recorder.slots[k].state ≠ .capturing) :
    s.appendToCapture p n = s := by
  unfold State.appendToCapture
  rw [Recorder.capturing_none.2 h]

/-- R158: a snapshot goes to the lowest-numbered capture in progress. -/
theorem State.appendToCapture_of_first {p : Snapshot} {n : Nat} {k : Fin 8} (hk : s.recorder.slots[k].state = .capturing)
    (hfirst : ∀ j < k, s.recorder.slots[j].state ≠ .capturing) : s.appendToCapture p n =
      if n ≤ s.recorder.slots[k].header.post + 1 then
        State.raiseAttention (recordDoneRaise k) { s with recorder := s.recorder.setSlot k (s.recorder.slots[k].appended p n) }
      else { s with recorder := s.recorder.setSlot k (s.recorder.slots[k].appended p n) } := by
  have hstate : (s.recorder.slots[k].appended p n).state = .complete ↔ n ≤ s.recorder.slots[k].header.post + 1 := by
    unfold RecordSlot.appended
    dsimp only
    split
    next h => exact ⟨fun _ => h, fun _ => rfl⟩
    next h => exact ⟨nofun, fun hc => absurd hc h⟩
  unfold State.appendToCapture
  rw [Recorder.capturing_first hk hfirst]
  dsimp only
  by_cases hc : n ≤ s.recorder.slots[k].header.post + 1
  · rw [if_pos hc, if_pos (hstate.2 hc)]
  · rw [if_neg hc, if_neg (mt hstate.1 hc)]

theorem Recorder.capturing_lowest {r : Recorder} {k : Fin 8} (h : r.capturing = some k) :
    ∀ j < k, r.slots[j].state ≠ .capturing := by
  obtain ⟨n, hn, he, hbefore⟩ := (List.find?_eq_some_iff_getElem.1 h).2
  intro j hj hcj
  have hkn : k.val = n := by simpa using (congrArg Fin.val he).symm
  have hnot := hbefore j.val (by omega)
  simp only [List.getElem_finRange, Fin.cast_mk, Fin.eta, Bool.not_eq_true', beq_eq_false_iff_ne] at hnot
  exact hnot hcj

/-- R158: the slots after a snapshot, each by whether it is the lowest-numbered capture in progress. -/
theorem State.appendToCapture_slot (p : Snapshot) (n : Nat) (s : State) (k : Fin 8) :
    (s.appendToCapture p n).recorder.slots[k] =
      if s.recorder.slots[k].state = .capturing ∧ ∀ j < k, s.recorder.slots[j].state ≠ .capturing then
        s.recorder.slots[k].appended p n
      else s.recorder.slots[k] := by
  cases hcapturing : s.recorder.capturing with
  | none =>
    have hnone := Recorder.capturing_none.1 hcapturing
    rw [State.appendToCapture_of_none hnone, if_neg (fun h => hnone k h.1)]
  | some i =>
    have hi := Recorder.capturing_some hcapturing
    have hfirst := Recorder.capturing_lowest hcapturing
    have hrecorder : (s.appendToCapture p n).recorder = s.recorder.setSlot i (s.recorder.slots[i].appended p n) := by
      rw [State.appendToCapture_of_first hi hfirst]
      split
      · rw [State.raiseAttention_recorder]
      · rfl
    rw [hrecorder, Recorder.setSlot_slots]
    by_cases e : i = k
    · subst e
      rw [if_pos rfl, if_pos ⟨hi, hfirst⟩]
    · rw [if_neg e, if_neg]
      rintro ⟨hk, hbefore⟩
      rcases lt_trichotomy i k with hlt | heq | hgt
      · exact hbefore i hlt hi
      · exact e heq
      · exact hfirst k hgt hk

/-- R152: the snapshot, field by field. -/
theorem State.snapshot_eq (s : State) :
    let i := s.intake
    let m := s.lim.motor
    let v := s.vib.channels
    s.snapshot =
      { tag := s.cycleTag
        tref := i.ref.reference
        applied := ⟨m.a.applied, m.b.applied⟩
        iref := ⟨m.a.iref, m.b.iref⟩
        imeas := ⟨i.arm.a.current, i.arm.b.current⟩
        u := ⟨s.reg.a.output, s.reg.b.output⟩
        speed := i.speed.speed
        drive := s.seq.drive
        row := s.sched.rowInForce
        limited := ⟨m.a.limited, m.b.limited⟩
        shockClamp := ⟨m.a.clampApplied, m.b.clampApplied⟩
        breakaway := s.lim.breakawayAtRef
        saturated := ⟨s.reg.a.saturated, s.reg.b.saturated⟩
        qArm := ⟨i.arm.a.status.quality, i.arm.b.status.quality⟩
        qSpeed := i.speed.status.quality
        qRef := i.ref.status.quality
        confirmed := #v[v[0].conf.state, v[1].conf.state, v[2].conf.state, v[3].conf.state]
        raw := #v[v[0].raw.summary, v[1].raw.summary, v[2].raw.summary, v[3].raw.summary]
        marker := s.recorder.marker.getD 0 } := rfl

/-- Settles O13: the snapshot written at the close, which nothing later in the mark changes. -/
theorem markWritesSnapshot : Obligations.MarkWritesSnapshot := by
  intro s f b h hcycle hb hidle i m v summary p capturing completes
  have hsummary : ∀ x : Channel, x.raw.summary = summary x := by
    intro x
    change _ = (match x.raw with
      | .aboveWarn => RawSummary.warn
      | .aboveAlarm => .alarm
      | .belowDead => .dead
      | _ => .quiet)
    cases x.raw <;> rfl
  have hp : s.snapshot = p := by
    rw [State.snapshot_eq, hsummary, hsummary, hsummary, hsummary]
  generalize hw : ({ s.forward f with intake := (s.forward f).intake.countSlip f.tag } : State) = w
  have hfintake : (s.forward f).intake = s.intake := s.forward_intake f
  have hwintake : w.intake = s.intake.countSlip f.tag := by rw [← hw, hfintake]
  have hwcycle : w.intake.cycle = s.intake.cycle := by rw [hwintake, Intake.countSlip_eq]
  have hwbank : w.sched.active = some b := by rw [← hw]; exact (congrArg Schedule.active (s.forward_sched f)).trans hb
  have hwrecorder : w.recorder = s.recorder := by rw [← hw]; exact s.forward_recorder f
  have hwrpt : w.rpt = s.rpt := by rw [← hw]; exact s.forward_rpt f
  have hwlim : w.lim = s.lim := by rw [← hw]; exact s.forward_lim f
  have hwsnapshot : w.snapshot = p := by
    rw [← hp, ← hw]
    unfold State.snapshot State.cycleTag State.row
    dsimp only
    rw [s.forward_lim, s.forward_reg, s.forward_seq, s.forward_sched, s.forward_vib, s.forward_recorder, hfintake,
      Intake.countSlip_eq]
  have hopen : (s.forward f).cycleOpened f.tag = w.writeSnapshot.pendingSwap.openCycle f.tag := by
    rw [State.cycleOpened_idle (by rw [hfintake]; exact hidle), hw]
  have hwrite : w.writeSnapshot = State.appendToCapture p b.dc.g3.postDepth { w with recorder := { w.recorder with
      history := pushHistory w.recorder.history p, marker := none } } := by
    rw [← hwsnapshot]
    exact State.writeSnapshot_eq (by rw [hwcycle]; exact hcycle) hwbank
  have hring := State.appendToCapture_ring p b.dc.g3.postDepth { w with recorder := { w.recorder with
      history := pushHistory w.recorder.history p, marker := none } }
  rw [← hwrite] at hring
  have hkept := MarkKept.markActions ((s.forward f).cycleOpened f.tag)
  have hopenrec : ((s.forward f).cycleOpened f.tag).recorder = w.writeSnapshot.recorder := by
    rw [hopen, State.openCycle_recorder, State.pendingSwap_recorder]
  have hafter : s.lim.breakaway = none → ((s.forward f).cycleOpened f.tag).markActions =
      State.markDriveFrames { ((s.forward f).cycleOpened f.tag).tripMark with
        lim := ((s.forward f).cycleOpened f.tag).limMarked } := by
    intro hnone
    refine State.markActions_of_none ?_
    rw [(State.cycleOpened_keeps (s := s.forward f) (by rw [hfintake]; exact hidle)).2.2.2.1, s.forward_lim]
    exact hnone
  refine ⟨_, exec_mark (c := .mark f) (by simp [frameCommands]) h, ?_, ?_, fun hnone k => ?_, fun hnone hactivation => ?_⟩
  · rw [hkept.history, hopenrec, show w.writeSnapshot.recorder.history = _ from congrArg Prod.fst hring, hwrecorder]
    change pushHistory s.recorder.history p = _
    unfold pushHistory
    split <;> rfl
  · rw [hkept.marker, hopenrec, show w.writeSnapshot.recorder.marker = _ from congrArg Prod.snd hring]
    rfl
  · have hslots : ((s.forward f).cycleOpened f.tag).markActions.recorder = w.writeSnapshot.recorder := by
      rw [hafter hnone, State.markDriveFrames_recorder]
      exact hopenrec
    rw [hslots, hwrite, State.appendToCapture_slot, hwrecorder]
    rfl
  · have hrpt : ((s.forward f).cycleOpened f.tag).markActions.rpt = w.writeSnapshot.rpt := by
      rw [hafter hnone, State.markDriveFrames_rpt, hopen]
      have hswap : w.writeSnapshot.pendingSwap = w.writeSnapshot := by
        unfold State.pendingSwap
        rw [State.writeSnapshot_sched, ← hw]
        dsimp only
        rw [s.forward_sched, hactivation]
      rw [hswap]
      rfl
    rw [hrpt, hwrite]
    refine ⟨fun k hk hcompletes => ?_, fun hopen => ?_⟩
    · rw [State.appendToCapture_of_first (k := k) (by rw [hwrecorder]; exact hk.1)
        (by rw [hwrecorder]; exact hk.2), if_pos (by rw [hwrecorder]; exact hcompletes)]
      exact State.raiseAttention_rpt_congr _ hwrpt (by rw [hb]; exact hwbank) hwcycle
    · by_cases hsome : ∃ k, capturing k
      · obtain ⟨k, hk⟩ := hsome
        rw [State.appendToCapture_of_first (k := k) (by rw [hwrecorder]; exact hk.1)
          (by rw [hwrecorder]; exact hk.2), if_neg (by rw [hwrecorder]; exact hopen k hk)]
        exact hwrpt
      · rw [State.appendToCapture_of_none]
        · exact hwrpt
        · intro k hk
          cases hcapturing : s.recorder.capturing with
          | none => exact Recorder.capturing_none.1 hcapturing k (hwrecorder ▸ hk)
          | some j => exact hsome ⟨j, Recorder.capturing_some hcapturing, Recorder.capturing_lowest hcapturing⟩

/-! ## The swap at a mark (O30) -/

/-- R35, R36: the blocks a swap changes. -/
theorem State.swap_eq (h : s.sched.staged = some b) : s.swap = { s with
    sched := { s.sched with
      active := some b, dirty := DirtySet.empty, generation := (s.sched.generation + 1) % 4294967296 }
    split := s.split.swapped b
    reg := ⟨s.reg.a.swapped b, s.reg.b.swapped b⟩
    vib := s.swap.vib
    rpt := s.swap.rpt } := by
  have hswapped : ∀ (old : Option Bank) (t : State), t.vibrationSwapped old = { t with vib := (t.vibrationSwapped old).vib } := by
    intro old t
    unfold State.vibrationSwapped
    exact State.reformCeilings_eq _
  unfold State.swap
  rw [h]
  dsimp only
  rw [hswapped]
  rfl

theorem State.pendingSwap_of_some {m : Manager} (h : s.sched.activation = some m) :
    s.pendingSwap = s.swap.answerActivation .done := by
  unfold State.pendingSwap
  rw [h]

theorem State.answerActivation_of_some {m : Manager} {r : ResultCode} (h : s.sched.activation = some m) :
    s.answerActivation r = { s with
      sched := { s.sched with activation := none }
      rqh := s.rqh.set m { s.rqh.get m with
        holder := { (s.rqh.get m).holder with state := .answering }
        replies := (s.rqh.get m).replies ++
          [⟨(s.rqh.get m).holder.addr, 23, (s.rqh.get m).holder.tag, r, [], s.cycleTag, .answer⟩] } } := by
  unfold State.answerActivation
  rw [h]
  rfl

/-- Settles O30: the actions of the mark keep what the swap leaves. -/
theorem pendingSwapAtMark : Obligations.PendingSwapAtMark := by
  intro s f m b h hidle hactivation hstaged x
  have hfintake : (s.forward f).intake = s.intake := s.forward_intake f
  generalize hz : State.writeSnapshot { s.forward f with intake := (s.forward f).intake.countSlip f.tag } = z
  have hzsched : z.sched = s.sched := by rw [← hz, State.writeSnapshot_sched]; exact s.forward_sched f
  have hzsplit : z.split = s.split := by rw [← hz, State.writeSnapshot_split]; exact s.forward_split f
  have hzreg : z.reg = s.reg := by rw [← hz, State.writeSnapshot_reg]; exact s.forward_reg f
  have hzrqh : z.rqh = s.rqh := by rw [← hz, State.writeSnapshot_rqh]; exact s.forward_rqh f
  have hzcycle : z.cycleTag = s.cycleTag := by
    unfold State.cycleTag
    rw [← hz, State.writeSnapshot_intake, hfintake, Intake.countSlip_eq]
  have hopen : (s.forward f).cycleOpened f.tag = z.pendingSwap.openCycle f.tag := by
    rw [State.cycleOpened_idle (by rw [hfintake]; exact hidle), hz]
  have hswap := State.swap_eq (s := z) (b := b) (by rw [hzsched]; exact hstaged)
  have hpending : z.pendingSwap = z.swap.answerActivation .done := State.pendingSwap_of_some (m := m) (by rw [hzsched]; exact hactivation)
  rw [State.answerActivation_of_some (m := m) (by rw [hswap]; exact (congrArg Schedule.activation hzsched).trans hactivation)] at hpending
  have hkept := MarkKept.markActions ((s.forward f).cycleOpened f.tag)
  have hsched : ((s.forward f).cycleOpened f.tag).sched = { s.sched with
      active := some b, dirty := DirtySet.empty, generation := (s.sched.generation + 1) % 4294967296, activation := none } := by
    rw [hopen, State.openCycle_sched, hpending, hswap, ← hzsched]
  have hsplit : ((s.forward f).cycleOpened f.tag).split = s.split.swapped b := by
    rw [hopen, State.openCycle_split, hpending, hswap, ← hzsplit]
  have hreg : ((s.forward f).cycleOpened f.tag).reg = ⟨s.reg.a.swapped b, s.reg.b.swapped b⟩ := by
    rw [hopen, State.openCycle_reg, hpending, hswap, ← hzreg]
  have hrqh : ((s.forward f).cycleOpened f.tag).rqh = s.rqh.set m { x with
      holder := { x.holder with state := .answering }
      replies := x.replies ++ [⟨x.holder.addr, 23, x.holder.tag, .done, [], s.cycleTag, .answer⟩] } := by
    rw [hopen, State.openCycle_rqh, hpending, hswap, ← hzcycle]
    dsimp only
    rw [hzrqh]
    rfl
  have hactive : ((s.forward f).cycleOpened f.tag).sched.active = some b := by rw [hsched]
  have hnone := hkept.activation (by rw [hsched])
  refine ⟨_, exec_mark (c := .pendingActivationSwap f) (by simp [frameCommands]) h, ?_, ?_, hnone.1, ?_, ?_, ?_, ?_, ?_, ?_,
    hnone.2.trans hrqh, ?_, ?_⟩
  · exact hkept.active.trans hactive
  · rw [hkept.staged, hsched]
    exact hstaged
  · rw [hkept.dirty, hsched]
  · rw [hkept.generation, hsched]
  · rw [hkept.split, hsplit]
    rfl
  · rw [hkept.split, hsplit]
    rfl
  · rw [hkept.accA, hreg]
    rfl
  · rw [hkept.accB, hreg]
    rfl
  · rw [hkept.intake]
    rfl
  · rw [hkept.intake]
    unfold State.cycleOpened State.openCycle
    dsimp only
    change (Intake.opened _ f.tag ((s.forward f).cycleOpened f.tag).sched.active).deadline = _
    rw [hactive]
    rfl

/-! ## The limiter at a mark (O34, O35) -/

theorem State.raiseCause_shocks (c : Cause) (who : Who) (detail : Int) (s : State) :
    (s.raiseCause c who detail).lim.shocks = s.lim.shocks := by
  rcases s.raiseCause_cases c who detail with e | ⟨-, -, e⟩ | ⟨-, -, e⟩ | ⟨-, -, -, e⟩ <;> rw [e]
  · rw [State.reportCause_lim]
  · rw [State.laterCause_eq]
  · rw [State.declareTrip_eq]

theorem State.countBreakaway_shocks (s : State) : s.countBreakaway.lim.shocks = s.lim.shocks := by
  unfold State.countBreakaway
  split
  · rfl
  · split
    · exact State.raiseCause_shocks ..
    · rfl

/-- R71: the limiter's part of a mark on the motors and the shock list, in whichever order the actions go. -/
theorem State.markActions_limiter (x : State) :
    x.markActions.lim.motor = x.limMarked.motor ∧ x.markActions.lim.shocks = x.limMarked.shocks := by
  have hlimiter : ∀ t : State, t.lim = x.lim → t.sched.active = x.sched.active →
      t.limiterMark.lim.motor = x.limMarked.motor ∧ t.limiterMark.lim.shocks = x.limMarked.shocks := by
    intro t hlim hactive
    rw [State.limiterMark_eq, State.countBreakaway_motor, State.countBreakaway_shocks]
    unfold State.limMarked
    rw [hlim, hactive]
    exact ⟨rfl, rfl⟩
  unfold State.markActions
  split
  · refine inAnyOrder_once (P := fun t => t.lim = x.lim ∧ t.sched.active = x.sched.active)
      (Q := fun t => t.lim.motor = x.limMarked.motor ∧ t.lim.shocks = x.limMarked.shocks) (fun _ h => h) (fun _ h => h)
      (a := State.limiterMark) (fun t h => hlimiter t h.1 h.2) 3 [State.tripMark] [State.markDriveFrames] x (by simp) ?_ ?_ ⟨rfl, rfl⟩
    · intro act hact t h
      simp only [List.cons_append, List.nil_append, List.mem_cons, List.not_mem_nil, or_false] at hact
      rcases hact with rfl | rfl
      · exact h
      · rw [State.markDriveFrames_lim, State.markDriveFrames_sched]
        exact h
    · intro act hact t h
      simp only [List.cons_append, List.nil_append, List.mem_cons, List.not_mem_nil, or_false] at hact
      rcases hact with rfl | rfl
      · exact h
      · rw [State.markDriveFrames_lim]
        exact h
  · rw [State.markDriveFrames_lim]
    exact hlimiter x.tripMark rfl rfl

/-- Settles O34: the limiter at the mark, by what the other actions of the mark keep of it. -/
theorem shockMarkActions : Obligations.ShockMarkActions := by
  intro s f c hc h hidle marked
  have hlim := (State.cycleOpened_keeps (s := s.forward f) (tag := f.tag) (by rw [s.forward_intake]; exact hidle)).2.2.2.1
  rw [s.forward_lim] at hlim
  obtain ⟨hmotor, hshocks⟩ := State.markActions_limiter ((s.forward f).cycleOpened f.tag)
  have hactive := (MarkKept.markActions ((s.forward f).cycleOpened f.tag)).active
  refine ⟨_, exec_mark hc h, ?_, ?_, fun hnone => ?_, fun n hsome => ?_⟩
  · rw [hmotor]
    unfold State.limMarked
    rw [hlim]
    rfl
  · rw [hshocks, hactive]
    unfold State.limMarked
    rw [hlim]
    cases ((s.forward f).cycleOpened f.tag).sched.active <;> rfl
  · rw [State.markActions_of_none (by rw [hlim]; exact hnone), State.markDriveFrames_lim]
    exact (congrArg Limiter.breakaway hlim).trans hnone
  · have hbreakaway : ((s.forward f).cycleOpened f.tag).lim.breakaway = some (n + 2) := by rw [hlim]; exact hsome
    have hrunning : ((s.forward f).cycleOpened f.tag).lim.breakawayExpiring = false := by
      unfold Limiter.breakawayExpiring
      rw [hbreakaway]
      simp
    rw [State.markActions_ordered hrunning, State.markDriveFrames_lim,
      State.limiterMark_of_some (s := ((s.forward f).cycleOpened f.tag).tripMark) hbreakaway]

/-! ## The allowance that expires (O35) -/

theorem State.cycleOpened_sched {tag : Word} (hidle : s.intake.deadline.isRunning = false) (h : s.sched.activation = none) :
    (s.cycleOpened tag).sched = s.sched := by
  have hswap : ∀ z : State, z.sched = s.sched → z.pendingSwap = z := by
    intro z hz
    unfold State.pendingSwap
    rw [hz, h]
  have hwritten := State.writeSnapshot_sched { s with intake := s.intake.countSlip tag }
  rw [State.cycleOpened_idle hidle, hswap _ hwritten, State.openCycle_sched]
  exact hwritten

theorem State.classOf_breakawayFailed (hb : s.sched.active = some b) : s.classOf .breakawayFailed = b.dc.g3.classes[3] := by
  unfold State.classOf
  rw [hb] <;> rfl

/-- R142: a raise of a class other than TRIP keeps the drive state and the first cause. -/
theorem State.raiseCause_untripped {c : Cause} {who : Who} {detail : Int} (h : s.classOf c ≠ .trip) :
    (s.raiseCause c who detail).seq = s.seq ∧ (s.raiseCause c who detail).tru.first = s.tru.first := by
  rcases s.raiseCause_cases c who detail with e | ⟨-, -, e⟩ | ⟨ht, -, -⟩ | ⟨ht, -, -, -⟩
  · rw [e]
    exact ⟨rfl, rfl⟩
  · rw [e, State.reportCause_seq, State.reportCause_tru]
    exact ⟨rfl, rfl⟩
  · exact absurd ht h
  · exact absurd ht h

/-- R66: what the limiter's part of a mark leaves where the allowance has one mark left. -/
structure AllowanceExpired (x t : State) (b : Bank) : Prop where
  breakaway : t.lim.breakaway = none
  outcome : t.lim.outcome = .expired
  untripped : b.dc.g3.classes[3] ≠ .trip → t.seq.drive = x.seq.drive ∧ t.tru.first = x.tru.first
  warned : b.dc.g3.classes[3] = .warn → t.rpt.attention[Attention.torqueLimit.index] = true
  tripped : b.dc.g3.classes[3] = .trip → x.seq.drive ≠ .blocked → x.seq.drive ≠ .tripped →
    t.seq.drive = .tripped ∧ t.tru.first = some ⟨.breakawayFailed, .nobody, x.intake.speed.speed⟩

theorem AllowanceExpired.of_eq (h : AllowanceExpired x t b) (hlim : u.lim = t.lim) (hseq : u.seq = t.seq)
    (hfirst : u.tru.first = t.tru.first) (hrpt : u.rpt = t.rpt) : AllowanceExpired x u b where
  breakaway := by rw [hlim]; exact h.breakaway
  outcome := by rw [hlim]; exact h.outcome
  untripped hc := by rw [hseq, hfirst]; exact h.untripped hc
  warned hc := by rw [hrpt]; exact h.warned hc
  tripped hc h1 h2 := by rw [hseq, hfirst]; exact h.tripped hc h1 h2

/-- R66, R142: the expiry of the allowance, by the class of BREAKAWAY_FAILED. -/
theorem State.limiterMark_expires (hb : s.sched.active = some b) (h : s.lim.breakaway = some 1) :
    AllowanceExpired s s.limiterMark b := by
  generalize hw : ({ s with lim := { s.limMarked with breakaway := none, outcome := .expired } } : State) = w
  have hmark : s.limiterMark = w.raiseCause .breakawayFailed .nobody s.intake.speed.speed := by
    rw [State.limiterMark_eq, ← hw]
    unfold State.countBreakaway
    rw [show ({ s with lim := s.limMarked } : State).lim.breakaway = some 1 from h]
    exact if_pos (Nat.le_refl 1)
  have hclass : w.classOf .breakawayFailed = b.dc.g3.classes[3] := State.classOf_breakawayFailed (by rw [← hw]; exact hb)
  have hdrive : w.seq = s.seq := by rw [← hw]
  have hfirst : w.tru = s.tru := by rw [← hw]
  have hnone : w.lim.breakaway = none := by rw [← hw]
  have hlim : s.limiterMark.lim.breakaway = none ∧ s.limiterMark.lim.outcome = .expired := by
    rw [hmark]
    rcases w.raiseCause_cases .breakawayFailed .nobody s.intake.speed.speed with e | ⟨-, -, e⟩ | ⟨-, -, e⟩ | ⟨-, -, -, e⟩ <;> rw [e]
    · rw [← hw]
      exact ⟨rfl, rfl⟩
    · rw [State.reportCause_lim, ← hw]
      exact ⟨rfl, rfl⟩
    · rw [State.laterCause_eq, ← hw]
      exact ⟨rfl, rfl⟩
    · rw [State.declareTrip_eq]
      exact ⟨rfl, (if_pos hnone).trans (by rw [← hw])⟩
  refine ⟨hlim.1, hlim.2, fun hc => ?_, fun hc => ?_, fun hc h1 h2 => ?_⟩
  · obtain ⟨hseq, htru⟩ := State.raiseCause_untripped (s := w) (c := .breakawayFailed) (who := .nobody)
      (detail := s.intake.speed.speed) (by rw [hclass]; exact hc)
    rw [hmark, hseq, htru, hdrive, hfirst]
    exact ⟨rfl, rfl⟩
  · have hclear : ¬ w.tru.standing.get .breakawayFailed = true := nofun
    rw [hmark, State.raiseCause_warns (hclass.trans hc), if_neg hclear]
    exact State.raiseAttention_set _ _
  · obtain ⟨ht, htru, -⟩ := w.raiseCause_tripped (hclass.trans hc) (by rw [hdrive]; exact h1) (by rw [hdrive]; exact h2) .nobody
      s.intake.speed.speed
    rw [hmark, htru]
    exact ⟨ht, rfl⟩

/-- Settles O35: the limiter's part of the mark goes once, and the other parts keep what it reads and what it leaves. -/
theorem breakawayExpires : Obligations.BreakawayExpires := by
  intro s f b h hidle hb hactivation hone
  have hfidle : (s.forward f).intake.deadline.isRunning = false := by rw [s.forward_intake]; exact hidle
  obtain ⟨-, hseq, htru, hlim, hintake⟩ := State.cycleOpened_keeps (tag := f.tag) hfidle
  have hsched := State.cycleOpened_sched (tag := f.tag) hfidle (by rw [s.forward_sched]; exact hactivation)
  generalize hx : (s.forward f).cycleOpened f.tag = x at hseq htru hlim hintake hsched
  have hxone : x.lim.breakaway = some 1 := by rw [hlim, s.forward_lim]; exact hone
  have hxbank : x.sched.active = some b := by rw [hsched, s.forward_sched]; exact hb
  have hexpiring : x.lim.breakawayExpiring = true := by
    unfold Limiter.breakawayExpiring
    rw [hxone]
    rfl
  have hspeed : x.intake.speed.speed = s.intake.speed.speed := by
    rw [hintake, s.forward_intake, Intake.countSlip_eq]
    rfl
  have hexpired : AllowanceExpired x x.markActions b := by
    unfold State.markActions
    rw [if_pos hexpiring]
    refine inAnyOrder_once (P := fun t => t.lim = x.lim ∧ t.sched = x.sched ∧ t.seq = x.seq ∧ t.intake = x.intake ∧
        t.tru.first = x.tru.first) (Q := fun t => AllowanceExpired x t b) (fun _ h => h) (fun _ h => h.of_eq rfl rfl rfl rfl)
      (a := State.limiterMark) (fun t ⟨htlim, htsched, htseq, htintake, htfirst⟩ => ?_) 3 [State.tripMark] [State.markDriveFrames] x
      (by simp) ?_ ?_ ⟨rfl, rfl, rfl, rfl, rfl⟩
    · have ht := State.limiterMark_expires (s := t) (b := b) (by rw [htsched]; exact hxbank) (by rw [htlim]; exact hxone)
      refine ⟨ht.breakaway, ht.outcome, fun hc => ?_, ht.warned, fun hc h1 h2 => ?_⟩
      · rw [← htseq, ← htfirst]
        exact ht.untripped hc
      · rw [← htintake]
        exact ht.tripped hc (by rw [htseq]; exact h1) (by rw [htseq]; exact h2)
    · intro act hact t ht
      simp only [List.cons_append, List.nil_append, List.mem_cons, List.not_mem_nil, or_false] at hact
      rcases hact with rfl | rfl
      · exact ht
      · rw [State.markDriveFrames_lim, State.markDriveFrames_sched, State.markDriveFrames_seq, State.markDriveFrames_intake,
          State.markDriveFrames_tru]
        exact ht
    · intro act hact t ht
      simp only [List.cons_append, List.nil_append, List.mem_cons, List.not_mem_nil, or_false] at hact
      rcases hact with rfl | rfl
      · exact ht.of_eq rfl rfl rfl rfl
      · exact ht.of_eq t.markDriveFrames_lim t.markDriveFrames_seq (congrArg TripUnit.first t.markDriveFrames_tru)
          t.markDriveFrames_rpt
  have hxdrive : x.seq.drive = s.seq.drive := by rw [hseq, s.forward_seq]
  have hxfirst : x.tru.first = s.tru.first := by rw [htru, s.forward_tru]
  refine ⟨_, (exec_mark (c := .breakawayExpired f) (by simp [frameCommands]) h).trans (by rw [hx]), hexpired.breakaway,
    hexpired.outcome, fun hc => ?_, hexpired.warned, fun hc h1 h2 => ?_⟩
  · rw [← hxdrive, ← hxfirst]
    exact hexpired.untripped hc
  · rw [← hspeed]
    exact hexpired.tripped hc (by rw [hxdrive]; exact h1) (by rw [hxdrive]; exact h2)

end Sys2Proof.Machine
end

section
/-! PROOF. The control loop (O21) and the reference event (O19). -/

namespace Sys2Proof.Machine

variable {s t u : State} {f : RawFrame} {b : Bank} {e : SlotEntry}

/-! ## The control loop (R79 to R82) -/

theorem clampInt_eq (x : Int) {l : Int} (hl : 0 ≤ l) : clampInt x l = max (-l) (min x l) := by
  unfold clampInt
  split
  · omega
  · split <;> omega

theorem integrationHeld_iff {u e : Int} {vlim : Nat} : integrationHeld u e vlim = true ↔
    (vlim : Int) < u.natAbs ∧ (0 < e ∧ 0 < u ∨ e < 0 ∧ u < 0) := by
  simp only [integrationHeld, Bool.and_eq_true, Bool.or_eq_true, decide_eq_true_eq, Int.ofNat_lt]

/-- Settles O21: integration held keeps the accumulator, and otherwise the candidate is clamped. -/
theorem regulationBounded : Obligations.RegulationBounded := by
  intro acc kp ki vlim iref imeas hacc x e p u held
  have hheld : integrationHeld u e vlim = true ↔ held := integrationHeld_iff
  have hflag : x.flagged = (integrationHeld u e vlim || x.acc != (if integrationHeld u e vlim then acc else acc + ki * e) ||
      x.output != p + Int.tdiv x.acc 256) := rfl
  refine ⟨natAbs_clampInt_le _ rfl, regulateLoop_acc_le kp ki iref imeas hacc, clampInt_eq _ (by omega), fun h => ⟨?_, ?_⟩,
    fun h => (if_neg (mt hheld.1 h)).trans (clampInt_eq _ (by omega)), ?_⟩
  · exact if_pos (hheld.2 h)
  · rw [hflag, hheld.2 h]
    rfl
  · rw [hflag]
    by_cases h : held
    · simp [hheld.2 h, h]
    · simp [Bool.eq_false_iff.2 (mt hheld.1 h), h]

/-! ## Limits (R57 to R61) -/

/-- R57 to R59: base limits, ceiling and shock clamp, by the allowance. -/
theorem composeLimits_eq (g : Group0) (row : SpeedRow) (o : Option Nat) (c h : Nat) :
    let clamped := 0 < h ∧ ¬ o ≠ none
    let mot := min (if o ≠ none then g.breakawayLimit else row.lmot) c
    let gen := min row.lgen c
    composeLimits g row o.isSome c h = ⟨if clamped then min mot g.shockClamp else mot, if clamped then min gen g.shockClamp else gen,
      if clamped then true else false⟩ := by
  cases o with
  | none => by_cases hh : 0 < h <;> simp [composeLimits, hh]
  | some n => simp [composeLimits]

theorem Limits.clamp_eq (l : Limits) (x : Int) : l.clamp x = max (-(l.gen : Int)) (min x l.mot) := by
  unfold Limits.clamp
  split
  · omega
  · split <;> omega

/-! ## A reference event, part by part (R44 to R62) -/

/-- R45, R46: the share accumulator after the event. -/
def State.shareAcc (b : Bank) (s : State) : Int :=
  if s.shareHeld then s.split.acc
  else updatedShare s.split.acc b.dc.g0.ks b.dc.g0.trimMax s.intake.arm.a.current s.intake.arm.b.current

/-- R47, R48: the two shares. -/
def State.sharesOf (b : Bank) (s : State) : PerMotor Int :=
  let ta := shareA s.intake.ref.reference (trimOf (s.shareAcc b)) (biasOf b.dc.g0 s.seq.drive)
  ⟨ta, s.intake.ref.reference - ta⟩

/-- R51, R52: the event up to its imbalance check. -/
def State.splitChecked (b : Bank) (s : State) : State :=
  let t : State := { s with split := { s.split with acc := s.shareAcc b, trim := trimOf (s.shareAcc b) } }
  if s.shareHeld then t else t.checkImbalance b.dc.g0 s.intake.arm.a.current s.intake.arm.b.current

/-- R56 to R61: what the event leaves of motor `m` in the limiter. -/
def State.splitLimits (b : Bank) (m : Motor) (s : State) : MotorLimits :=
  (s.lim.motor.get m).afterSplit (s.limitsOf b m) ((s.sharesOf b).get m) (s.sched.speedRow b).flux b.dc.g0.imax

/-- R51: the imbalance count after the event. -/
def State.imbalanceNow (b : Bank) (s : State) : Nat :=
  if s.shareHeld then s.split.imbalanceCount
  else imbalanceAfter b.dc.g0 s.split.imbalanceCount (s.intake.arm.a.current - s.intake.arm.b.current).natAbs

/-- R52: the event raises IMBALANCE. -/
def State.imbalanceRaised (b : Bank) (s : State) : Prop :=
  s.shareHeld = false ∧ s.split.imbalanceCount < b.dc.g0.imbalanceCycles ∧ s.imbalanceNow b = b.dc.g0.imbalanceCycles

theorem State.splitChecked_split (b : Bank) (s : State) : (s.splitChecked b).split =
    { s.split with acc := s.shareAcc b, trim := trimOf (s.shareAcc b), imbalanceCount := s.imbalanceNow b } := by
  unfold State.splitChecked State.imbalanceNow State.checkImbalance
  dsimp only
  split
  · rfl
  · split
    · rw [State.raiseCause_split]
    · rfl

/-- R51, R52: without a raise the check changes the splitter alone. -/
theorem State.splitChecked_quiet (h : ¬ s.imbalanceRaised b) :
    s.splitChecked b = { s with split := (s.splitChecked b).split } := by
  rw [State.splitChecked_split]
  unfold State.splitChecked State.imbalanceNow State.checkImbalance
  dsimp only
  unfold State.imbalanceRaised State.imbalanceNow at h
  cases hheld : s.shareHeld with
  | true => rfl
  | false =>
    simp only [hheld, Bool.false_eq_true, if_false, true_and] at h ⊢
    rw [if_neg h]

/-- R52: a raise of IMBALANCE, for the motor of greater current. -/
theorem State.splitChecked_raised (h : s.imbalanceRaised b) : s.splitChecked b = State.raiseCause .imbalance
    (.motor (largerMotor s.intake.arm.a.current s.intake.arm.b.current))
    (s.intake.arm.a.current - s.intake.arm.b.current).natAbs { s with split := (s.splitChecked b).split } := by
  rw [State.splitChecked_split]
  unfold State.splitChecked State.imbalanceNow State.checkImbalance
  dsimp only
  obtain ⟨hheld, hbelow, hreached⟩ := h
  unfold State.imbalanceNow at hreached
  simp only [hheld, Bool.false_eq_true, if_false] at hreached ⊢
  rw [if_pos ⟨hbelow, hreached⟩]

theorem State.splitChecked_keeps (b : Bank) (s : State) : (s.splitChecked b).lim.motor = s.lim.motor ∧
    (s.splitChecked b).intake = s.intake ∧ (s.splitChecked b).sched.active = s.sched.active := by
  by_cases h : s.imbalanceRaised b
  · rw [State.splitChecked_raised h, State.raiseCause_motor, State.raiseCause_intake, State.raiseCause_active]
    exact ⟨rfl, rfl, rfl⟩
  · rw [State.splitChecked_quiet h]
    exact ⟨rfl, rfl, rfl⟩

/-- R62: the end of the event, from what the limiter then holds of the motors. -/
def State.splitFinished (b : Bank) (q : PerMotor MotorLimits) (s : State) : State :=
  let w := State.raiseLimits (q.a.limited && !s.split.prevLimited.a) (q.b.limited && !s.split.prevLimited.b)
    (torqueLimitRaise .a (s.sharesOf b).a q.a.applied) (torqueLimitRaise .b (s.sharesOf b).b q.b.applied)
    { s.splitChecked b with lim := { (s.splitChecked b).lim with motor := q } }
  { w with split := { w.split with prevLimited := ⟨q.a.limited, q.b.limited⟩, lastSplit := s.sharesOf b } }

/-- R44 to R62: a reference event in a running state, by its parts. -/
theorem State.splitEvent_eq (b : Bank) (s : State) :
    s.splitEvent b = s.splitFinished b ⟨s.splitLimits b .a, s.splitLimits b .b⟩ := by
  have hmotor := (s.splitChecked_keeps b).1
  have hevent : s.splitEvent b = s.splitFinished b
      ⟨(s.splitChecked b).lim.motor.a.afterSplit (s.limitsOf b .a) (s.sharesOf b).a (s.sched.speedRow b).flux b.dc.g0.imax,
        (s.splitChecked b).lim.motor.b.afterSplit (s.limitsOf b .b) (s.sharesOf b).b (s.sched.speedRow b).flux b.dc.g0.imax⟩ := rfl
  rw [hevent, hmotor]
  rfl

theorem Bool.and_not_iff {x y : Bool} : (x && !y) = true ↔ x = true ∧ y = false := by
  cases x <;> cases y <;> decide

theorem signedDetail_eq (x : Int) : signedDetail x = max (-32768) (min 32767 x) := by
  unfold signedDetail
  split
  · omega
  · split <;> omega

/-- R62: what the Reporter holds after the raises of an event. -/
theorem State.raiseLimits_rpt_eq (x y : Bool) (a b : Raise) (s : State) :
    let t := s.raiseLimits x y a b
    (x = true → t.rpt.attention[a.kind.index] = true) ∧ (y = true → t.rpt.attention[b.kind.index] = true) ∧
    (x = false → y = false → t.rpt = s.rpt) ∧
    (x = true → y = false → t.rpt = (s.raiseAttention a).rpt) ∧
    (x = false → y = true → t.rpt = (s.raiseAttention b).rpt) ∧
    (x = true → y = true → t.rpt = ((s.raiseAttention a).raiseAttention b).rpt ∨ t.rpt = ((s.raiseAttention b).raiseAttention a).rpt) := by
  intro t
  cases x <;> cases y
  case false.false => exact ⟨nofun, nofun, fun _ _ => rfl, nofun, nofun, nofun⟩
  case false.true => exact ⟨nofun, fun _ => s.raiseAttention_set b, nofun, nofun, fun _ _ => rfl, nofun⟩
  case true.false => exact ⟨fun _ => s.raiseAttention_set a, nofun, nofun, fun _ _ => rfl, nofun, nofun⟩
  case true.true =>
    have hcongr : ∀ c d : Raise, ((s.drawn.raiseAttention c).raiseAttention d).rpt = ((s.raiseAttention c).raiseAttention d).rpt :=
      fun c d => State.raiseAttention_rpt_congr d (State.raiseAttention_rpt_congr c rfl rfl rfl)
        (by rw [State.raiseAttention_sched, State.raiseAttention_sched]; rfl)
        (by rw [State.raiseAttention_intake, State.raiseAttention_intake]; rfl)
    have ht : t.rpt = ((s.raiseAttention a).raiseAttention b).rpt ∨ t.rpt = ((s.raiseAttention b).raiseAttention a).rpt := by
      rcases inEitherOrder_cases (State.raiseAttention a) (State.raiseAttention b) s with e | e
      · exact .inl ((congrArg State.rpt e).trans (hcongr a b))
      · exact .inr ((congrArg State.rpt e).trans (hcongr b a))
    refine ⟨fun _ => ?_, fun _ => ?_, nofun, nofun, nofun, fun _ _ => ht⟩
    · rcases ht with e | e <;> rw [e]
      · exact State.raiseAttention_keeps b (s.raiseAttention_set a)
      · exact State.raiseAttention_set a _
    · rcases ht with e | e <;> rw [e]
      · exact State.raiseAttention_set b _
      · exact State.raiseAttention_keeps a (s.raiseAttention_set b)

theorem State.raiseLimits_keeps {i : Fin 15} (x y : Bool) (a b : Raise) (h : s.rpt.attention[i] = true) :
    (s.raiseLimits x y a b).rpt.attention[i] = true := by
  cases x <;> cases y
  case false.false => exact h
  case false.true => exact State.raiseAttention_keeps b h
  case true.false => exact State.raiseAttention_keeps a h
  case true.true =>
    exact inEitherOrder_keeps (P := fun t => t.rpt.attention[i] = true) (fun _ h => h) (fun _ h => State.raiseAttention_keeps a h)
      (fun _ h => State.raiseAttention_keeps b h) h

theorem State.classOf_imbalance (hb : s.sched.active = some b) : s.classOf .imbalance = b.dc.g3.classes[7] := by
  unfold State.classOf
  rw [hb] <;> rfl

/-! ## The take of a reference (O19) -/

theorem State.referenceEvent_eq (hb : s.sched.active = some b) : s.referenceEvent =
    let t : State := { s with
      intake := { s.intake with refMade := true }
      lim := { s.lim with breakawayAtRef := s.lim.breakaway.isSome } }
    if s.seq.drive.isRunning then t.splitEvent b else t.idleEvent b := by
  unfold State.referenceEvent
  rw [hb]

/-- R14, R16: a take of REF before the takes of the armatures makes the reference event alone. -/
theorem State.takeRef_alone {x : RefLatch} (hmade : s.intake.refMade = false) (ha : s.intake.arm.a.status.taken = false)
    (hb : s.intake.arm.b.status.taken = false) :
    s.takeRef x = State.referenceEvent { s with intake := { s.intake with ref := x } } := by
  unfold State.takeRef
  dsimp only
  rw [hmade, if_neg nofun, ha, hb]
  rfl

/-- Two states alike in all that a reference event reads. -/
theorem State.limitsOf_congr (hsched : t.sched = s.sched) (hbreakaway : t.lim.breakaway = s.lim.breakaway)
    (hmotor : t.lim.motor = s.lim.motor) (hvib : t.vib = s.vib) (b : Bank) (m : Motor) : t.limitsOf b m = s.limitsOf b m := by
  unfold State.limitsOf
  rw [hsched, hbreakaway, hmotor, hvib]

/-- R60, R61: what a reference event in a running state leaves of a motor. -/
theorem State.splitLimits_spec (b : Bank) (m : Motor) (s : State) :
    let x := s.splitLimits b m
    let l := s.limitsOf b m
    let share := (s.sharesOf b).get m
    x.lmotEff = l.mot ∧ x.lgenEff = l.gen ∧ x.applied = max (-(l.gen : Int)) (min share l.mot) ∧
      (x.limited = true ↔ x.applied ≠ share) ∧
      x.iref = clampInt (Int.tdiv (x.applied * 4096) (s.sched.speedRow b).flux) b.dc.g0.imax ∧ x.iref.natAbs ≤ b.dc.g0.imax := by
  intro x l share
  exact ⟨rfl, rfl, Limits.clamp_eq l share, bne_iff_ne, rfl, natAbs_clampInt_le _ rfl⟩

/-- R44 to R62: the blocks a reference event in a running state leaves, but for the Reporter. -/
theorem State.splitEvent_blocks (b : Bank) (s : State) :
    (s.splitEvent b).lim.motor = ⟨s.splitLimits b .a, s.splitLimits b .b⟩ ∧
    (s.splitEvent b).split = { s.split with
      acc := s.shareAcc b, trim := trimOf (s.shareAcc b), imbalanceCount := s.imbalanceNow b
      prevLimited := ⟨(s.splitLimits b .a).limited, (s.splitLimits b .b).limited⟩, lastSplit := s.sharesOf b } ∧
    (s.splitEvent b).seq = (s.splitChecked b).seq ∧ (s.splitEvent b).tru = (s.splitChecked b).tru := by
  rw [State.splitEvent_eq]
  unfold State.splitFinished
  dsimp only
  rw [State.raiseLimits_lim, State.raiseLimits_split, State.raiseLimits_seq, State.raiseLimits_tru, State.splitChecked_split]
  exact ⟨rfl, rfl, rfl, rfl⟩

/-- Settles O19: the parts of the reference event, in the state in which the reference is latched. -/
theorem referenceEvents : Obligations.ReferenceEvents := by
  intro s f b e w0 w1 h hrole hp hmade ha hb u g row tref allowance clamped mot gen
  have hbank : s.sched.active = some b := State.classify_active h.2.1
  have hlim : u.lim = s.lim := s.forward_lim f
  have hintake : u.intake = s.intake := s.forward_intake f
  have hsched : u.sched = s.sched := s.forward_sched f
  have hvib : u.vib = s.vib := s.forward_vib f
  have hseq : u.seq = s.seq := s.forward_seq f
  have hdrive : u.seq.drive = s.seq.drive := congrArg Sequencer.drive hseq
  have hlimits : ∀ m, s.limitsOf b m = ⟨mot m, gen m, if clamped m then true else false⟩ := fun m =>
    composeLimits_eq g row s.lim.breakaway (s.vib.ceiling.get m) (s.lim.motor.get m).hold
  have hexec : exec (.sampleFrame f) s = .next (State.referenceEvent { u with intake := { u.intake with ref := latchRef w0 w1 } }) :=
    (exec_takesRef h hrole hp).trans (congrArg Host.Outcome.next (State.takeRef_alone (s := u) (by rw [hintake]; exact hmade)
      (by rw [hintake]; exact ha) (by rw [hintake]; exact hb)))
  rw [State.referenceEvent_eq (b := b) (by rw [← hbank, ← hsched])] at hexec
  dsimp only at hexec
  generalize hv : ({ u with
      intake := { u.intake with ref := latchRef w0 w1, refMade := true }
      lim := { u.lim with breakawayAtRef := u.lim.breakaway.isSome } } : State) = v at hexec
  have hvlimits : ∀ m, v.limitsOf b m = ⟨mot m, gen m, if clamped m then true else false⟩ := fun m =>
    (State.limitsOf_congr (s := s) (by rw [← hv]; exact hsched) (by rw [← hv, ← hlim]) (by rw [← hv, ← hlim])
      (by rw [← hv]; exact hvib) b m).trans (hlimits m)
  rw [hexec]
  refine ⟨fun hidle => ?_, fun hrun => ?_⟩
  · intro idle
    rw [hdrive, hidle]
    change Host.Outcome.next (v.idleEvent b) = _
    unfold State.idleEvent
    rw [hvlimits, hvlimits, ← hv]
    dsimp only [MotorLimits.afterIdle]
    rw [hlim]
    rfl
  · intro ia ib held acc ta diff count raised cls
    rw [hdrive, hrun]
    change ∃ t, Host.Outcome.next (v.splitEvent b) = _ ∧ _
    have hvsplit : v.split = s.split := by rw [← hv]; exact s.forward_split f
    have hvseq : v.seq = s.seq := by rw [← hv]; exact hseq
    have hvtru : v.tru = s.tru := by rw [← hv]; exact s.forward_tru f
    have hvrpt : v.rpt = s.rpt := by rw [← hv]; exact s.forward_rpt f
    have hvbank : v.sched.active = some b := by rw [← hv, ← hbank, ← hsched]
    have hvarm : v.intake.arm = s.intake.arm := by rw [← hv, ← hintake]
    have hvcycle : v.intake.cycle = s.intake.cycle := by rw [← hv, ← hintake]
    have hvref : v.intake.ref.reference = tref := by rw [← hv]; rfl
    have hvrow : v.sched.speedRow b = row := by rw [← hv]; exact congrArg (fun c : Schedule => c.speedRow b) hsched
    have hheld : v.shareHeld = held := by
      unfold State.shareHeld
      rw [hvsplit, hvarm, hvseq]
    have hacc : v.shareAcc b = acc := by
      unfold State.shareAcc
      rw [hheld, hvsplit, hvarm]
      rfl
    have hshares : v.sharesOf b = ⟨ta, tref - ta⟩ := by
      have hbias : ((biasOf b.dc.g0 s.seq.drive : Nat) : Int) = if s.seq.drive = .turning then (g.contactBias : Int) else 0 := by
        unfold biasOf
        split <;> rfl
      unfold State.sharesOf shareA
      dsimp only
      rw [hacc, hvref, hvseq, hbias]
      rfl
    have hcount : v.imbalanceNow b = count := by
      unfold State.imbalanceNow
      rw [hheld, hvsplit, hvarm]
      rfl
    have hraised : v.imbalanceRaised b ↔ raised := by
      unfold State.imbalanceRaised
      rw [hheld, hvsplit, hcount]
    obtain ⟨hmotor, hsplit, htseq, httru⟩ := State.splitEvent_blocks b v
    have hshare : ∀ m, (v.splitEvent b).split.lastSplit.get m = (v.sharesOf b).get m := fun m => by rw [hsplit]
    have hget : ∀ m, (v.splitEvent b).lim.motor.get m = v.splitLimits b m := fun m => by rw [hmotor]; cases m <;> rfl
    have hintake' : (v.splitEvent b).intake = v.intake := v.splitEvent_intake b
    refine ⟨_, rfl, ?_, ?_, ?_, ?_, ?_, ?_, ?_, fun m => ?_, ?_, fun hr hc => ?_, fun hr hc => ?_, fun hr => ?_, ?_⟩
    · rw [hintake', ← hv]
    · rw [hintake']
      exact hvref
    · rw [hsplit, ← hacc]
    · rw [hsplit, ← hacc]
      rfl
    · rw [hsplit]
      exact hshares
    · rw [hsplit]
      dsimp only
      rw [hshares]
      exact add_sub_cancel ta tref
    · rw [hsplit, hmotor]
    · rw [hshare, hget, ← hvrow]
      have hspec := State.splitLimits_spec b m v
      dsimp only at hspec
      rw [hvlimits] at hspec
      exact hspec
    · rw [hsplit]
      exact hcount
    · have hvclass : State.classOf { v with split := (v.splitChecked b).split } .imbalance = .trip :=
        (State.classOf_imbalance hvbank).trans hc
      obtain ⟨htripped, hfirst, -⟩ := State.raiseCause_tripped { v with split := (v.splitChecked b).split } hvclass
        (fun e => nomatch (congrArg DriveState.isRunning ((congrArg Sequencer.drive hvseq).symm.trans e)).symm.trans hrun)
        (fun e => nomatch (congrArg DriveState.isRunning ((congrArg Sequencer.drive hvseq).symm.trans e)).symm.trans hrun)
        (.motor (largerMotor v.intake.arm.a.current v.intake.arm.b.current))
        (v.intake.arm.a.current - v.intake.arm.b.current).natAbs
      rw [htseq, httru, State.splitChecked_raised (hraised.2 hr), hfirst]
      refine ⟨htripped, ?_⟩
      rw [hvarm]
      rfl
    · have hvclass : State.classOf { v with split := (v.splitChecked b).split } .imbalance = .warn :=
        (State.classOf_imbalance hvbank).trans hc
      have hset : (v.splitChecked b).rpt.attention[Attention.imbalance.index] = true := by
        rw [State.splitChecked_raised (hraised.2 hr), State.raiseCause_warns hvclass, if_neg nofun]
        exact State.raiseAttention_set _ _
      rw [State.splitEvent_eq]
      exact State.raiseLimits_keeps _ _ _ _ hset
    · rw [htseq, httru, ← hvseq, ← hvtru]
      by_cases hr' : raised
      · obtain ⟨hseq', hfirst⟩ := State.raiseCause_untripped (s := { v with split := (v.splitChecked b).split }) (c := .imbalance)
          (who := .motor (largerMotor v.intake.arm.a.current v.intake.arm.b.current))
          (detail := (v.intake.arm.a.current - v.intake.arm.b.current).natAbs)
          (fun ht => hr ⟨hr', (State.classOf_imbalance hvbank).symm.trans ht⟩)
        rw [State.splitChecked_raised (hraised.2 hr')]
        exact ⟨hseq', hfirst⟩
      · rw [State.splitChecked_quiet (mt hraised.1 hr')]
        exact ⟨rfl, rfl⟩
    · intro newly warned
      have hnewly : ∀ m, newly m ↔ ((v.splitLimits b m).limited && !v.split.prevLimited.get m) = true := by
        intro m
        rw [Bool.and_not_iff, ← hget, hvsplit]
      have hwarned : ∀ m x, warned m x =
          x.raiseAttention (torqueLimitRaise m ((v.sharesOf b).get m) (v.splitLimits b m).applied) := by
        intro m x
        unfold torqueLimitRaise
        rw [signedDetail_eq, ← hshare, ← hget]
      obtain ⟨hseta, hsetb, hnone, honea, honeb, hboth⟩ := State.raiseLimits_rpt_eq
        ((v.splitLimits b .a).limited && !v.split.prevLimited.a) ((v.splitLimits b .b).limited && !v.split.prevLimited.b)
        (torqueLimitRaise .a (v.sharesOf b).a (v.splitLimits b .a).applied)
        (torqueLimitRaise .b (v.sharesOf b).b (v.splitLimits b .b).applied)
        { v.splitChecked b with lim := { (v.splitChecked b).lim with motor := ⟨v.splitLimits b .a, v.splitLimits b .b⟩ } }
      refine ⟨fun m hm => ?_, fun hr => ?_⟩
      · rw [State.splitEvent_eq]
        cases m with
        | a => exact hseta ((hnewly .a).1 hm)
        | b => exact hsetb ((hnewly .b).1 hm)
      · have hclear : ∀ m, ¬ newly m → ((v.splitLimits b m).limited && !v.split.prevLimited.get m) = false := fun m hm =>
          Bool.eq_false_iff.2 (mt (hnewly m).2 hm)
        have hcrpt : (v.splitChecked b).rpt = s.rpt := by rw [State.splitChecked_quiet (mt hraised.1 hr)]; exact hvrpt
        have hcactive : (v.splitChecked b).sched.active = s.sched.active := by
          rw [(v.splitChecked_keeps b).2.2, hvbank, hbank]
        have hccycle : (v.splitChecked b).intake.cycle = s.intake.cycle := by
          rw [(v.splitChecked_keeps b).2.1, hvcycle]
        have hcongr : ∀ x : Raise, (State.raiseAttention x { v.splitChecked b with
            lim := { (v.splitChecked b).lim with motor := ⟨v.splitLimits b .a, v.splitLimits b .b⟩ } }).rpt =
            (s.raiseAttention x).rpt := fun x => State.raiseAttention_rpt_congr x hcrpt hcactive hccycle
        have hcongr' : ∀ x y : Raise, (State.raiseAttention y (State.raiseAttention x { v.splitChecked b with
            lim := { (v.splitChecked b).lim with motor := ⟨v.splitLimits b .a, v.splitLimits b .b⟩ } })).rpt =
            ((s.raiseAttention x).raiseAttention y).rpt := fun x y => State.raiseAttention_rpt_congr y (hcongr x)
          (by rw [State.raiseAttention_sched, State.raiseAttention_sched]; exact hcactive)
          (by rw [State.raiseAttention_intake, State.raiseAttention_intake]; exact hccycle)
        rw [hwarned, hwarned, hwarned, hwarned, State.splitEvent_eq]
        refine ⟨fun ha hb => (hnone (hclear _ ha) (hclear _ hb)).trans hcrpt,
          fun ha hb => (honea ((hnewly .a).1 ha) (hclear _ hb)).trans (hcongr _),
          fun ha hb => (honeb (hclear _ ha) ((hnewly .b).1 hb)).trans (hcongr _), fun ha hb => ?_⟩
        rcases hboth ((hnewly .a).1 ha) ((hnewly .b).1 hb) with e | e
        · exact .inl (e.trans (hcongr' _ _))
        · exact .inr (e.trans (hcongr' _ _))

end Sys2Proof.Machine
end

section
/-! PROOF. What a raise keeps of the regulators, the first cause and the Reporter, and the echo's words. -/

namespace Sys2Proof.Machine

variable {s t u : State} {f : RawFrame} {b : Bank} {e : SlotEntry} {m : Motor}

/-! ## What a raise keeps -/

theorem State.truncateCapture_first (s : State) : s.truncateCapture.tru.first = s.tru.first := by
  rw [State.truncateCapture_tru]

theorem State.cycleLostTruncates_first (c : Cause) (s : State) : (s.cycleLostTruncates c).tru.first = s.tru.first := by
  unfold State.cycleLostTruncates
  split
  · exact s.truncateCapture_first
  · rfl

/-- R146: a later cause leaves the first cause. -/
theorem State.laterCause_first (r : CauseRecord) (s : State) : (s.laterCause r).tru.first = s.tru.first := by
  unfold State.laterCause
  dsimp only
  split
  · exact s.cycleLostTruncates_first _
  · split
    · split
      · refine (inEitherOrder_field (fun t => t.tru.first) (fun _ => rfl) (fun t => ?_) State.truncateCapture_first _).trans ?_
        · rw [State.raiseAttention_tru]
        · exact (congrArg TripUnit.first (State.updateTripHeader_tru ..)).trans rfl
      · rw [State.raiseAttention_tru]
        exact (congrArg TripUnit.first (State.updateTripHeader_tru ..)).trans rfl
    · exact (State.cycleLostTruncates_first _ _).trans ((congrArg TripUnit.first (State.updateTripHeader_tru ..)).trans rfl)

/-- R146: a raise in TRIPPED leaves the sequencer and the first cause. -/
theorem State.raiseCause_in_tripped (h : s.seq.drive = .tripped) (c : Cause) (who : Who) (detail : Int) :
    (s.raiseCause c who detail).seq = s.seq ∧ (s.raiseCause c who detail).tru.first = s.tru.first := by
  rcases s.raiseCause_cases c who detail with e | ⟨-, -, e⟩ | ⟨-, -, e⟩ | ⟨-, hn, -, -⟩
  · rw [e]
    exact ⟨rfl, rfl⟩
  · rw [e, State.reportCause_seq, State.reportCause_tru]
    exact ⟨rfl, rfl⟩
  · rw [e, State.laterCause_first, State.laterCause_eq]
    exact ⟨rfl, rfl⟩
  · exact absurd h hn

/-- R142: a raise in BLOCKED leaves the sequencer and the first cause. -/
theorem State.raiseCause_in_blocked (h : s.seq.drive = .blocked) (c : Cause) (who : Who) (detail : Int) :
    (s.raiseCause c who detail).seq = s.seq ∧ (s.raiseCause c who detail).tru.first = s.tru.first := by
  rcases s.raiseCause_cases c who detail with e | ⟨-, -, e⟩ | ⟨-, ht, -⟩ | ⟨-, -, hn, -⟩
  · rw [e]
    exact ⟨rfl, rfl⟩
  · rw [e, State.reportCause_seq, State.reportCause_tru]
    exact ⟨rfl, rfl⟩
  · cases h.symm.trans ht
  · exact absurd h hn

section
variable {i : Fin 15}

theorem State.cycleLostTruncates_keeps (c : Cause) (h : s.rpt.attention[i] = true) :
    (s.cycleLostTruncates c).rpt.attention[i] = true := by
  unfold State.cycleLostTruncates
  split
  · exact State.truncateCapture_keeps h
  · exact h

theorem State.updateTripHeader_keeps (g : Header → Header) (h : s.rpt.attention[i] = true) :
    (s.updateTripHeader g).rpt.attention[i] = true := by
  rw [State.updateTripHeader_rpt]
  exact h

theorem State.laterCause_keeps (r : CauseRecord) (h : s.rpt.attention[i] = true) : (s.laterCause r).rpt.attention[i] = true := by
  unfold State.laterCause
  dsimp only
  split
  · exact State.cycleLostTruncates_keeps _ h
  · split
    · split
      · exact inEitherOrder_keeps (P := fun t => t.rpt.attention[i] = true) (fun _ h => h)
          (fun _ h => State.raiseAttention_keeps _ h) (fun _ h => State.truncateCapture_keeps h) (State.updateTripHeader_keeps _ h)
      · exact State.raiseAttention_keeps _ (State.updateTripHeader_keeps _ h)
    · exact State.cycleLostTruncates_keeps _ (State.updateTripHeader_keeps _ h)

theorem State.declaredCore_rpt (r : CauseRecord) (s : State) : (s.declaredCore r).rpt = s.rpt := by
  unfold State.declaredCore
  dsimp only
  rw [State.answerActivation_rpt]
  have habandon : ∀ t : State, t.abandonBreakaway.endPin.rpt = t.rpt := fun t => by rw [State.abandonBreakaway_lim]; rfl
  rw [habandon]
  split
  · rw [State.leaveRunning_rpt, State.enterTripped_eq]
  · rw [State.enterTripped_eq]

theorem State.declareTrip_keeps (r : CauseRecord) (h : s.rpt.attention[i] = true) : (s.declareTrip r).rpt.attention[i] = true := by
  have hcore : (s.declaredCore r).rpt.attention[i] = true := by rw [State.declaredCore_rpt]; exact h
  unfold State.declareTrip
  split
  · exact State.raiseAttention_keeps _ hcore
  · exact inEitherOrder_keeps (P := fun t => t.rpt.attention[i] = true) (fun _ h => h)
      (fun _ h => State.raiseAttention_keeps _ h) (fun _ h => State.raiseAll_keeps _ h) hcore

/-- R182: a raise of a cause clears no pending flag. -/
theorem State.raiseCause_keeps (c : Cause) (who : Who) (detail : Int) (h : s.rpt.attention[i] = true) :
    (s.raiseCause c who detail).rpt.attention[i] = true := by
  rcases s.raiseCause_cases c who detail with e | ⟨-, -, e⟩ | ⟨-, -, e⟩ | ⟨-, -, -, e⟩ <;> rw [e]
  · exact h
  · exact State.raiseAttention_keeps _ h
  · exact State.laterCause_keeps _ h
  · exact State.declareTrip_keeps _ h

end

/-- R88, R144: a raise leaves of a regulator all but the output and the saturation flag. -/
theorem State.raiseCause_regulator (c : Cause) (who : Who) (detail : Int) (m : Motor) (s : State) :
    let r := (s.raiseCause c who detail).reg.get m
    r.acc = (s.reg.get m).acc ∧ r.satCount = (s.reg.get m).satCount ∧ r.satRaised = (s.reg.get m).satRaised ∧
      r.overcurrent = (s.reg.get m).overcurrent := by
  intro r
  have hkept : ∀ q : PerMotor Regulator, q = s.reg ∨ q = ⟨s.reg.a.quiet, s.reg.b.quiet⟩ → (q.get m).acc = (s.reg.get m).acc ∧
      (q.get m).satCount = (s.reg.get m).satCount ∧ (q.get m).satRaised = (s.reg.get m).satRaised ∧
      (q.get m).overcurrent = (s.reg.get m).overcurrent := by
    rintro q (rfl | rfl)
    · exact ⟨rfl, rfl, rfl, rfl⟩
    · cases m <;> exact ⟨rfl, rfl, rfl, rfl⟩
  refine hkept _ ?_
  rcases s.raiseCause_cases c who detail with e | ⟨-, -, e⟩ | ⟨-, -, e⟩ | ⟨-, -, -, e⟩ <;> rw [e]
  · exact .inl rfl
  · rw [State.reportCause_reg]
    exact .inl rfl
  · rw [State.laterCause_eq]
    exact .inl rfl
  · rw [State.declareTrip_eq]
    dsimp only
    split
    · exact .inr rfl
    · exact .inl rfl

/-- R88: outside the running states a raise leaves the regulators. -/
theorem State.raiseCause_reg_idle (h : s.seq.drive.isRunning = false) (c : Cause) (who : Who) (detail : Int) :
    (s.raiseCause c who detail).reg = s.reg := by
  rcases s.raiseCause_cases c who detail with e | ⟨-, -, e⟩ | ⟨-, -, e⟩ | ⟨-, -, -, e⟩ <;> rw [e]
  · rw [State.reportCause_reg]
  · rw [State.laterCause_eq]
  · rw [State.declareTrip_eq]
    exact if_neg (by simp [h])

/-! ## The echo (R123, R185, R186) -/

theorem Sequencer.brake_code (q : Sequencer) : q.brake.code = match q.drive, q.grant with
    | .running, _ => 1
    | .turning, _ => 1
    | .stopping, _ => 1
    | .auxiliary, _ => 2
    | .tripped, .granted => 2
    | .tripped, .recalling => 2
    | _, _ => 0 := by
  unfold Sequencer.brake
  cases q.drive <;> cases q.grant <;> rfl

theorem bitAt_eq (x : Bool) (k : Nat) : bitAt x k = if x then 2 ^ k else 0 := by cases x <;> simp [bitAt]

theorem RawResult.summary_code (x : RawResult) : x.summary.code = match x with
    | .aboveWarn => 1
    | .aboveAlarm => 2
    | .belowDead => 3
    | _ => 0 := by cases x <;> rfl

/-- R192: two bits for each channel, channel 0 in the low two. -/
theorem sum_finRange_four (g : Fin 4 → Nat) :
    ((List.finRange 4).map fun k => g k * 4 ^ k.val).sum = g 0 + g 1 * 4 + g 2 * 16 + g 3 * 64 := by
  simp [List.finRange_succ]
  omega

/-- R123, R192: echo word 3. -/
theorem State.echoFlags_eq (s : State) : s.echoFlags =
    (if s.lim.motor.a.limited then 2 ^ 0 else 0) + (if s.lim.motor.b.limited then 2 ^ 1 else 0) + 4 * s.seq.brake.code +
      16 * s.seq.grant.code + (if s.seq.turnDue then 2 ^ 6 else 0) + (if s.seq.turnComplete then 2 ^ 7 else 0) +
      (if s.seq.hot then 2 ^ 8 else 0) + (if s.tru.declared then 2 ^ 9 else 0) := by
  unfold State.echoFlags
  simp only [bitAt_eq]
  omega

/-- R114, R192: the summaries of echo word 5. -/
theorem State.echoSummaries (s : State) : rawByte s.vib.rawSummary * 256 + confirmedByte s.vib.confirmedSummary =
    256 * ((List.finRange 4).map fun k : Fin 4 => s.vib.channels[k].raw.summary.code * 4 ^ k.val).sum +
      ((List.finRange 4).map fun k : Fin 4 => s.vib.channels[k].conf.state.code * 4 ^ k.val).sum := by
  rw [sum_finRange_four fun k => s.vib.channels[k].raw.summary.code, sum_finRange_four fun k => s.vib.channels[k].conf.state.code,
    Nat.mul_comm 256]
  rfl

/-- R186: the payload of the echo is the words that the manual lists. -/
theorem State.echoPayload_eq (s : State) : s.echoPayload = s.echoWords := by
  unfold State.echoPayload
  rw [State.echoFlags_eq, State.echoSummaries, Sequencer.brake_code]
  simp only [RawResult.summary_code]
  rfl

end Sys2Proof.Machine
end

section
/-! PROOF. The regulation event, part by part (O20). -/

namespace Sys2Proof.Machine

variable {s t u : State} {f : RawFrame} {b : Bank} {e : SlotEntry} {m : Motor}

/-! ## A trip that a part of the event may declare -/

/-- What a raise of a cause leaves of the drive state and the first cause, by whether it declares a trip. -/
structure RaisedOrKept (declares : Prop) (r : CauseRecord) (s t : State) : Prop where
  declared : declares → s.seq.drive ≠ .blocked → s.seq.drive ≠ .tripped → t.seq.drive = .tripped ∧ t.tru.first = some r
  kept : ¬ declares ∨ s.seq.drive = .blocked ∨ s.seq.drive = .tripped → t.seq = s.seq ∧ t.tru.first = s.tru.first

theorem RaisedOrKept.of_eq {declares : Prop} {r : CauseRecord} (h : ¬ declares) (hseq : t.seq = s.seq)
    (hfirst : t.tru.first = s.tru.first) : RaisedOrKept declares r s t := ⟨fun hd => absurd hd h, fun _ => ⟨hseq, hfirst⟩⟩

/-- R142: a raise declares a trip by its class, and outside BLOCKED and TRIPPED. -/
theorem RaisedOrKept.raiseCause (c : Cause) (who : Who) (detail : Int) (s : State) :
    RaisedOrKept (s.classOf c = .trip) ⟨c, who, detail⟩ s (s.raiseCause c who detail) where
  declared hc h1 h2 := by
    obtain ⟨hdrive, htru, -⟩ := s.raiseCause_tripped hc h1 h2 who detail
    exact ⟨hdrive, by rw [htru]; rfl⟩
  kept h := by
    rcases h with h | h | h
    · exact State.raiseCause_untripped h
    · exact State.raiseCause_in_blocked h c who detail
    · exact State.raiseCause_in_tripped h c who detail

/-- What a part of the event does before and after its raise leaves the drive state and the first cause. -/
theorem RaisedOrKept.congr {declares declares' : Prop} {r : CauseRecord} {s' t' : State} (h : RaisedOrKept declares r s t)
    (hiff : declares' ↔ declares) (hs : s'.seq = s.seq) (hsfirst : s'.tru.first = s.tru.first) (ht : t'.seq = t.seq)
    (htfirst : t'.tru.first = t.tru.first) : RaisedOrKept declares' r s' t' where
  declared hd h1 h2 := by
    rw [ht, htfirst]
    exact h.declared (hiff.1 hd) (hs ▸ h1) (hs ▸ h2)
  kept hk := by
    rw [ht, htfirst, hs, hsfirst]
    exact h.kept (by rw [← hiff, ← hs]; exact hk)

theorem State.classOf_saturation (hb : s.sched.active = some b) (m : Motor) : s.classOf (.saturation m) =
    b.dc.g3.classes[(match m with
      | .a => 0
      | .b => 1 : Fin 8)] := by
  unfold State.classOf
  cases m <;> simp only [Cause.saturation, Cause.configIndex, hb]

theorem State.classOf_shockRepeat (hb : s.sched.active = some b) : s.classOf .shockRepeat = b.dc.g3.classes[2] := by
  unfold State.classOf
  rw [hb] <;> rfl

/-! ## The control loop's part (R78 to R83, R86) -/

/-- R79 to R82: what the control loop of motor `m` forms. -/
def State.loopOf (b : Bank) (m : Motor) (s : State) : Regulated :=
  regulateLoop (s.reg.get m).acc (s.sched.speedRow b).kp (s.sched.speedRow b).ki b.dc.g0.vlim (s.lim.motor.get m).iref
    (s.intake.arm.get m).current

/-- R83: the event raises SATURATION_m. -/
def State.saturates (b : Bank) (m : Motor) (s : State) : Bool :=
  raisesSaturation (s.reg.get m) (s.loopOf b m).flagged b.dc.g0.satLimit

/-- R82, R83: the event with the loop's values in the regulator. -/
def State.loopClosed (b : Bank) (m : Motor) (s : State) : State :=
  { s with reg := s.reg.set m ((s.reg.get m).regulated (s.loopOf b m) b.dc.g0.satLimit) }

theorem State.regulate_eq (b : Bank) (m : Motor) (s : State) : s.regulate b m = State.eventFrame m (s.loopOf b m).output
    (s.sched.speedRow b).fieldRef (if s.saturates b m then
      (s.loopClosed b m).raiseCause (.saturation m) (.motor m) (s.loopOf b m).output else s.loopClosed b m) := rfl

/-- R78 to R83: what the control loop's part leaves. -/
theorem State.regulate_spec (hb : s.sched.active = some b) (m : Motor) :
    let t := s.regulate b m
    let r := t.reg.get m
    let r' := (s.reg.get m).regulated (s.loopOf b m) b.dc.g0.satLimit
    r.acc = r'.acc ∧ r.satCount = r'.satCount ∧ r.satRaised = r'.satRaised ∧ t.lim.shocks = s.lim.shocks ∧
    RaisedOrKept (s.saturates b m = true ∧ s.classOf (.saturation m) = .trip) ⟨.saturation m, .motor m, (s.loopOf b m).output⟩ s t ∧
    (s.saturates b m = true → s.classOf (.saturation m) = .warn → t.rpt.attention[Attention.saturation.index] = true) := by
  intro t r r'
  have hclass : (s.loopClosed b m).classOf (.saturation m) = s.classOf (.saturation m) :=
    (State.classOf_saturation (s := s.loopClosed b m) hb m).trans (State.classOf_saturation hb m).symm
  have hget : (s.loopClosed b m).reg.get m = r' := PerMotor.get_set ..
  have ht : t = _ := s.regulate_eq b m
  by_cases hsat : s.saturates b m = true
  · rw [if_pos hsat] at ht
    have hreg : t.reg = ((s.loopClosed b m).raiseCause (.saturation m) (.motor m) (s.loopOf b m).output).reg := by
      rw [ht, State.eventFrame_reg]
    obtain ⟨hacc, hcount, hraised, -⟩ := State.raiseCause_regulator (.saturation m) (.motor m) (s.loopOf b m).output m
      (s.loopClosed b m)
    rw [← hreg, hget] at hacc hcount hraised
    have hraise := RaisedOrKept.raiseCause (.saturation m) (.motor m) (s.loopOf b m).output (s.loopClosed b m)
    refine ⟨hacc, hcount, hraised, ?_, hraise.congr ?_ rfl rfl ?_ ?_, fun _ hwarn => ?_⟩
    · rw [ht, State.eventFrame_lim, State.raiseCause_shocks]
      rfl
    · rw [hclass]
      exact ⟨fun h => h.2, fun h => ⟨hsat, h⟩⟩
    · rw [ht, State.eventFrame_seq]
    · rw [ht, State.eventFrame_tru]
    · rw [ht, State.eventFrame_rpt, State.raiseCause_warns (hclass.trans hwarn), if_neg (by cases m <;> exact nofun)]
      have hset := State.raiseAttention_set ⟨(Cause.saturation m).reportKind, (Cause.saturation m).code, .motor m,
        (s.loopOf b m).output⟩ ((s.loopClosed b m).standingRaised (.saturation m))
      cases m <;> exact hset
  · rw [if_neg hsat] at ht
    refine ⟨?_, ?_, ?_, ?_, .of_eq (fun h => hsat h.1) ?_ ?_, fun h => absurd h hsat⟩
    · exact (congrArg (fun q : PerMotor Regulator => (q.get m).acc) (by rw [ht, State.eventFrame_reg])).trans (congrArg Regulator.acc hget)
    · exact (congrArg (fun q : PerMotor Regulator => (q.get m).satCount) (by rw [ht, State.eventFrame_reg])).trans
        (congrArg Regulator.satCount hget)
    · exact (congrArg (fun q : PerMotor Regulator => (q.get m).satRaised) (by rw [ht, State.eventFrame_reg])).trans
        (congrArg Regulator.satRaised hget)
    · rw [ht, State.eventFrame_lim]
      rfl
    · rw [ht, State.eventFrame_seq]
      rfl
    · rw [ht, State.eventFrame_tru]
      rfl

/-! ## The overcurrent test (R84) -/

/-- R84: the regulators with the overcurrent condition of motor `m` as tested. -/
def State.overcurrentSet (m : Motor) (above : Bool) (s : State) : State :=
  { s with reg := s.reg.set m { s.reg.get m with overcurrent := above } }

theorem State.testOvercurrent_eq (htaken : (s.intake.arm.get m).status.taken = true) : s.testOvercurrent b m =
    if b.dc.g0.iTrip < (s.intake.arm.get m).current.natAbs then
      (s.overcurrentSet m true).raiseCause (.overcurrent m) (.motor m) (s.intake.arm.get m).current
    else s.overcurrentSet m false := by
  unfold State.testOvercurrent
  dsimp only
  rw [if_pos htaken]
  by_cases h : b.dc.g0.iTrip < (s.intake.arm.get m).current.natAbs
  · simp only [h, decide_true, if_true]
    rfl
  · simp only [h, decide_false, if_false]
    rfl

theorem State.classOf_overcurrent (m : Motor) (s : State) : s.classOf (.overcurrent m) = .trip := by cases m <;> rfl

/-- R84: what the overcurrent test leaves. -/
theorem State.testOvercurrent_spec (htaken : (s.intake.arm.get m).status.taken = true) (b : Bank) :
    let t := s.testOvercurrent b m
    let excess := b.dc.g0.iTrip < (s.intake.arm.get m).current.natAbs
    let r := t.reg.get m
    r.acc = (s.reg.get m).acc ∧ r.satCount = (s.reg.get m).satCount ∧ r.satRaised = (s.reg.get m).satRaised ∧
    (r.overcurrent = true ↔ excess) ∧ t.lim.shocks = s.lim.shocks ∧
    RaisedOrKept excess ⟨.overcurrent m, .motor m, (s.intake.arm.get m).current⟩ s t ∧
    ∀ i : Fin 15, s.rpt.attention[i] = true → t.rpt.attention[i] = true := by
  intro t excess r
  have ht : t = _ := State.testOvercurrent_eq (b := b) htaken
  have hget : ∀ x, ((s.overcurrentSet m x).reg.get m) = { s.reg.get m with overcurrent := x } := fun _ => PerMotor.get_set ..
  by_cases h : excess
  · rw [if_pos h] at ht
    obtain ⟨hacc, hcount, hraised, hover⟩ := State.raiseCause_regulator (.overcurrent m) (.motor m) (s.intake.arm.get m).current m
      (s.overcurrentSet m true)
    rw [← ht, hget] at hacc hcount hraised hover
    have hraise := RaisedOrKept.raiseCause (.overcurrent m) (.motor m) (s.intake.arm.get m).current (s.overcurrentSet m true)
    refine ⟨hacc, hcount, hraised, ⟨fun _ => h, fun _ => hover⟩, ?_, hraise.congr ?_ rfl rfl (by rw [ht]) (by rw [ht]),
      fun i hi => ?_⟩
    · rw [ht, State.raiseCause_shocks]
      rfl
    · exact ⟨fun _ => State.classOf_overcurrent m _, fun _ => h⟩
    · rw [ht]
      exact State.raiseCause_keeps _ _ _ (s := s.overcurrentSet m true) hi
  · rw [if_neg h] at ht
    have hr : r = { s.reg.get m with overcurrent := false } := (congrArg (fun x : State => x.reg.get m) ht).trans (hget false)
    refine ⟨by rw [hr], by rw [hr], by rw [hr], ⟨fun ho => ?_, fun hx => absurd hx h⟩, by rw [ht]; rfl, .of_eq h (by rw [ht]; rfl)
      (by rw [ht]; rfl), fun i hi => by rw [ht]; exact hi⟩
    rw [hr] at ho
    exact absurd ho nofun

/-! ## The measured torque and the shock (R68 to R70, R108) -/

theorem State.discardWindows_channel (hb : s.sched.active = some b) (m : Motor) (k : Fin 4) :
    (s.discardWindows m).vib.channels[k] = if b.dc.g2.pinion[k] = m ∧ b.dc.g2.discardOnShock[k] = true then
      s.vib.channels[k].dropWindow else s.vib.channels[k] := by
  unfold State.discardWindows
  rw [hb]
  dsimp only
  rw [State.mapChannels_channel]
  by_cases h : b.dc.g2.pinion[k] = m ∧ b.dc.g2.discardOnShock[k] = true
  · rw [if_pos h, if_pos (by rw [h.1, h.2]; cases m <;> rfl)]
  · rw [if_neg h, if_neg]
    intro hboth
    rw [Bool.and_eq_true, beq_iff_eq] at hboth
    exact h hboth

/-- R69: the limiter with a shock event of motor `m` in it. -/
def State.shockListed (b : Bank) (m : Motor) (s : State) : State :=
  { s with lim := { s.lim with
    shocks := pushShock s.lim.shocks ⟨m, s.cycleTag, 0⟩
    motor := s.lim.motor.set m { s.lim.motor.get m with
      hold := b.dc.g0.shockHold, reloaded := true, shockCount := bump (s.lim.motor.get m).shockCount } } }

theorem State.shockEvent_eq (b : Bank) (m : Motor) (d : Int) (s : State) : s.shockEvent b m d =
    let t := (s.shockListed b m).raiseAttention ⟨.shock, 0, .motor m, signedDetail d⟩
    let n := (pushShock s.lim.shocks ⟨m, s.cycleTag, 0⟩).length
    State.discardWindows m (if b.dc.g0.shockTripCount ≤ n then t.raiseCause .shockRepeat (.motor m) n else t) := rfl

/-- R69, R70, R108: what a shock event leaves. -/
theorem State.shockEvent_spec (hb : s.sched.active = some b) (m : Motor) (d : Int) :
    let t := s.shockEvent b m d
    let shocks := pushShock s.lim.shocks ⟨m, s.cycleTag, 0⟩
    (t.reg.get m).acc = (s.reg.get m).acc ∧ (t.reg.get m).satCount = (s.reg.get m).satCount ∧
    (t.reg.get m).satRaised = (s.reg.get m).satRaised ∧ (t.reg.get m).overcurrent = (s.reg.get m).overcurrent ∧
    t.lim.shocks = shocks ∧ t.lim.motor.get m = { s.lim.motor.get m with
      hold := b.dc.g0.shockHold, reloaded := true, shockCount := bump (s.lim.motor.get m).shockCount } ∧
    t.rpt.attention[Attention.shock.index] = true ∧
    (∀ k : Fin 4, t.vib.channels[k] = if b.dc.g2.pinion[k] = m ∧ b.dc.g2.discardOnShock[k] = true then
      s.vib.channels[k].dropWindow else s.vib.channels[k]) ∧
    RaisedOrKept (b.dc.g0.shockTripCount ≤ shocks.length ∧ b.dc.g3.classes[2] = .trip) ⟨.shockRepeat, .motor m, shocks.length⟩ s t ∧
    ∀ i : Fin 15, s.rpt.attention[i] = true → t.rpt.attention[i] = true := by
  intro t shocks
  generalize hw : (s.shockListed b m).raiseAttention ⟨.shock, 0, .motor m, signedDetail d⟩ = w
  have ht : t = State.discardWindows m (if b.dc.g0.shockTripCount ≤ shocks.length then
      w.raiseCause .shockRepeat (.motor m) shocks.length else w) := by
    rw [← hw]
    rfl
  have hwreg : w.reg = s.reg := by rw [← hw, State.raiseAttention_reg]; rfl
  have hwlim : w.lim = (s.shockListed b m).lim := by rw [← hw, State.raiseAttention_lim]
  have hwvib : w.vib = s.vib := by rw [← hw, State.raiseAttention_vib]; rfl
  have hwseq : w.seq = s.seq := by rw [← hw, State.raiseAttention_seq]; rfl
  have hwtru : w.tru = s.tru := by rw [← hw, State.raiseAttention_tru]; rfl
  have hwbank : w.sched.active = some b := by rw [← hw, State.raiseAttention_sched]; exact hb
  have hwshock : w.rpt.attention[Attention.shock.index] = true := by rw [← hw]; exact State.raiseAttention_set _ _
  have hwkeeps : ∀ i : Fin 15, s.rpt.attention[i] = true → w.rpt.attention[i] = true := fun i hi => by
    rw [← hw]
    exact State.raiseAttention_keeps (s := s.shockListed b m) _ hi
  have hwmotor : w.lim.motor.get m = { s.lim.motor.get m with
      hold := b.dc.g0.shockHold, reloaded := true, shockCount := bump (s.lim.motor.get m).shockCount } := by
    rw [hwlim]
    exact PerMotor.get_set ..
  by_cases h : b.dc.g0.shockTripCount ≤ shocks.length
  · rw [if_pos h] at ht
    generalize hz : w.raiseCause .shockRepeat (.motor m) shocks.length = z at ht
    have hraise := RaisedOrKept.raiseCause .shockRepeat (.motor m) shocks.length w
    obtain ⟨hacc, hcount, hraised, hover⟩ := State.raiseCause_regulator .shockRepeat (.motor m) shocks.length m w
    rw [hz] at hraise hacc hcount hraised hover
    have hzbank : z.sched.active = some b := by rw [← hz, State.raiseCause_active]; exact hwbank
    rw [ht, State.discardWindows_reg, State.discardWindows_lim, State.discardWindows_rpt]
    refine ⟨by rw [hacc, hwreg], by rw [hcount, hwreg], by rw [hraised, hwreg], by rw [hover, hwreg], ?_, ?_, ?_, fun k => ?_,
      hraise.congr ?_ hwseq.symm (by rw [hwtru]) (State.discardWindows_seq ..) (by rw [State.discardWindows_tru]), fun i hi => ?_⟩
    · rw [← hz, State.raiseCause_shocks, hwlim]
      rfl
    · rw [← hz, State.raiseCause_motor]
      exact hwmotor
    · rw [← hz]
      exact State.raiseCause_keeps _ _ _ hwshock
    · rw [State.discardWindows_channel hzbank, ← hz, State.raiseCause_vib, hwvib]
    · rw [State.classOf_shockRepeat hwbank]
      exact ⟨fun hx => hx.2, fun hx => ⟨h, hx⟩⟩
    · rw [← hz]
      exact State.raiseCause_keeps _ _ _ (hwkeeps i hi)
  · rw [if_neg h] at ht
    rw [ht, State.discardWindows_reg, State.discardWindows_lim, State.discardWindows_rpt, hwreg]
    refine ⟨rfl, rfl, rfl, rfl, by rw [hwlim]; rfl, hwmotor, hwshock, fun k => ?_,
      .of_eq (fun hx => h hx.1) (by rw [State.discardWindows_seq, hwseq]) (by rw [State.discardWindows_tru, hwtru]), hwkeeps⟩
    rw [State.discardWindows_channel hwbank, hwvib]

/-- R69: motor `m`'s torque has stepped by more than shock_step from a FRESH one of the cycle before. -/
def State.shockSeen (b : Bank) (m : Motor) (flux : Nat) (s : State) : Bool :=
  isShock (s.lim.motor.get m).prevTorque (measuredTorque (s.intake.arm.get m).current flux) (s.intake.arm.get m).status.quality
    b.dc.g0.shockStep

/-- R68: motor `m`'s measured torque becomes the previous one. -/
def State.torqueKept (m : Motor) (p : Option MeasuredTorque) (s : State) : State :=
  { s with lim := { s.lim with motor := s.lim.motor.set m { s.lim.motor.get m with prevTorque := p } } }

theorem State.measureTorque_eq (b : Bank) (m : Motor) (flux : Nat) (s : State) : s.measureTorque b m flux =
    let tmeas := measuredTorque (s.intake.arm.get m).current flux
    State.torqueKept m (some ⟨tmeas, (s.intake.arm.get m).status.quality, 0⟩)
      (if s.shockSeen b m flux then
        s.shockEvent b m (tmeas - ((s.lim.motor.get m).prevTorque.map (·.value)).getD 0) else s) := rfl

/-- R68 to R70, R108: what the measured torque's part leaves. -/
theorem State.measureTorque_spec (hb : s.sched.active = some b) (m : Motor) (flux : Nat) :
    let t := s.measureTorque b m flux
    let shock := s.shockSeen b m flux
    let shocks := pushShock s.lim.shocks ⟨m, s.cycleTag, 0⟩
    let x := s.lim.motor.get m
    let y := t.lim.motor.get m
    (t.reg.get m).acc = (s.reg.get m).acc ∧ (t.reg.get m).satCount = (s.reg.get m).satCount ∧
    (t.reg.get m).satRaised = (s.reg.get m).satRaised ∧ (t.reg.get m).overcurrent = (s.reg.get m).overcurrent ∧
    y.prevTorque = some ⟨measuredTorque (s.intake.arm.get m).current flux, (s.intake.arm.get m).status.quality, 0⟩ ∧
    (shock = false → t.lim.shocks = s.lim.shocks ∧ y.hold = x.hold ∧ y.reloaded = x.reloaded ∧ y.shockCount = x.shockCount) ∧
    (shock = true → t.lim.shocks = shocks ∧ y.hold = b.dc.g0.shockHold ∧ y.reloaded = true ∧
      y.shockCount = bump x.shockCount ∧ t.rpt.attention[Attention.shock.index] = true) ∧
    (∀ k : Fin 4, t.vib.channels[k] = if shock = true ∧ b.dc.g2.pinion[k] = m ∧ b.dc.g2.discardOnShock[k] = true then
      s.vib.channels[k].dropWindow else s.vib.channels[k]) ∧
    RaisedOrKept (shock = true ∧ b.dc.g0.shockTripCount ≤ shocks.length ∧ b.dc.g3.classes[2] = .trip)
      ⟨.shockRepeat, .motor m, shocks.length⟩ s t ∧
    ∀ i : Fin 15, s.rpt.attention[i] = true → t.rpt.attention[i] = true := by
  intro t shock shocks x y
  have ht : t = _ := s.measureTorque_eq b m flux
  have hkept : ∀ (p : Option MeasuredTorque) (z : State), (z.torqueKept m p).lim.motor.get m =
      { z.lim.motor.get m with prevTorque := p } := fun _ _ => PerMotor.get_set ..
  cases hshock : shock with
  | true =>
    obtain ⟨hacc, hcount, hraised, hover, hshocks, hmotor, hset, hvib, hraise, hkeeps⟩ := State.shockEvent_spec hb m
      (measuredTorque (s.intake.arm.get m).current flux - ((s.lim.motor.get m).prevTorque.map (·.value)).getD 0)
    dsimp only at ht
    rw [if_pos (show s.shockSeen b m flux = true from hshock)] at ht
    generalize State.shockEvent b m (measuredTorque (s.intake.arm.get m).current flux -
      ((s.lim.motor.get m).prevTorque.map (·.value)).getD 0) s = z at *
    have hy : y = _ := (congrArg (fun q : State => q.lim.motor.get m) ht).trans (hkept _ z)
    rw [hmotor] at hy
    rw [hy]
    refine ⟨?_, ?_, ?_, ?_, rfl, nofun, fun _ => ⟨?_, rfl, rfl, rfl, ?_⟩, fun k => ?_, hraise.congr ?_ rfl rfl ?_ ?_, fun i hi => ?_⟩
    · rw [ht]; exact hacc
    · rw [ht]; exact hcount
    · rw [ht]; exact hraised
    · rw [ht]; exact hover
    · rw [ht]; exact hshocks
    · rw [ht]; exact hset
    · rw [ht]
      refine (hvib k).trans ?_
      simp only [true_and]
    · simp only [true_and]
      exact Iff.rfl
    · rw [ht]; rfl
    · rw [ht]; rfl
    · rw [ht]; exact hkeeps i hi
  | false =>
    dsimp only at ht
    rw [if_neg (show ¬ s.shockSeen b m flux = true by rw [show s.shockSeen b m flux = false from hshock]; exact nofun)] at ht
    have hy : y = _ := (congrArg (fun q : State => q.lim.motor.get m) ht).trans (hkept _ s)
    rw [hy, ht]
    refine ⟨rfl, rfl, rfl, rfl, rfl, fun _ => ⟨rfl, rfl, rfl, rfl⟩, nofun, fun k => ?_, .of_eq (fun hx => nomatch hx.1) rfl rfl,
      fun _ hi => hi⟩
    simp only [Bool.false_eq_true, false_and, if_false]
    rfl

/-! ## The report of the event (R85, R185) -/

theorem PerMotor.set_set {α : Type} (p : PerMotor α) (m : Motor) (x y : α) : (p.set m x).set m y = p.set m y := by
  cases m <;> rfl

/-- R185: the report that completes the pair produces the echo. -/
theorem State.reportRegulation_eq (m : Motor) (s : State) : s.reportRegulation m =
    let w : State := { s with intake := { s.intake with regMade := s.intake.regMade.set m true } }
    if s.intake.regMade.set m true = ⟨true, true⟩ then w.joinPair (makeFrame 0 s.rp.strap kindEcho s.cycleTag w.echoWords)
    else w := by
  have hboth : ∀ p : PerMotor Bool, (p.a && p.b) = true ↔ p = ⟨true, true⟩ := by
    rintro ⟨x, y⟩
    cases x <;> cases y <;> decide
  unfold State.reportRegulation
  dsimp only
  by_cases h : s.intake.regMade.set m true = ⟨true, true⟩
  · rw [if_pos h, if_pos ((hboth _).2 h)]
    unfold State.produceEcho State.ownFrame
    rw [State.echoPayload_eq]
    rfl
  · rw [if_neg h, if_neg (mt (hboth _).1 h)]

theorem State.regulationEvent_running (hb : s.sched.active = some b) (hrun : s.seq.drive.isRunning = true) (m : Motor) :
    s.regulationEvent m = State.reportRegulation m
      (((s.regulate b m).testOvercurrent b m).measureTorque b m (s.sched.speedRow b).flux) := by
  unfold State.regulationEvent
  rw [hb]
  exact if_pos hrun

theorem State.regulationEvent_idle (hb : s.sched.active = some b) (hrun : s.seq.drive.isRunning = false) (m : Motor) :
    s.regulationEvent m = State.reportRegulation m (State.forgetTorque m
      (State.testOvercurrent b m { s with reg := s.reg.set m (s.reg.get m).unregulated })) := by
  unfold State.regulationEvent
  rw [hb]
  exact if_neg (by simp [hrun])

/-- R14, R16, R140: a take of ARM_m without fault after the reference event makes the motor's regulation event. -/
theorem State.takeArm_due {x : ArmLatch} (hfault : x.fault = 0) (hmade : s.intake.refMade = true)
    (hdue : s.intake.regMade.get m = false) : s.takeArm m x = State.regulationEvent m { s with
      intake := { s.intake with arm := s.intake.arm.set m x }
      tru := { s.tru with converterFault := s.tru.converterFault.set m none } } := by
  unfold State.takeArm
  rw [hmade, hdue]
  exact congrArg (State.regulationEvent m) (if_pos hfault)

/-- R69: the shock test on a FRESH torque. -/
theorem isShock_fresh (prev : Option MeasuredTorque) (tmeas : Int) (step : Nat) : isShock prev tmeas .fresh step =
    (match prev with
      | none => false
      | some p => decide (p.quality = .fresh ∧ p.age = 1 ∧ step < (tmeas - p.value).natAbs) : Bool) := by
  cases prev with
  | none => rfl
  | some p =>
    unfold isShock
    dsimp only
    rw [Bool.eq_iff_iff]
    simp only [Bool.and_eq_true, beq_iff_eq, decide_eq_true_eq, and_true, and_assoc]

theorem pushShock_eq (l : List ShockEntry) (x : ShockEntry) : pushShock l x = (if 8 ≤ l.length then l.tail else l) ++ [x] := by
  unfold pushShock
  split <;> rfl

/-- R86: the drive frame of an event in a running state joins the priority pair, and nothing else changes. -/
theorem State.eventFrame_running (hb : s.sched.active = some b) (hrun : s.seq.drive.isRunning = true) {dest : Addr}
    (hdest : b.armAddr m = some dest) (out : Int) (field : Nat) : s.eventFrame m out field = { s with
      rp := (s.joinPair (makeFrame dest s.rp.strap kindDrive s.cycleTag [1, wordOfInt out, wordOfNat field])).rp } := by
  have haddr : (s.sched.active.bind fun b => b.armAddr m) = some dest := by rw [hb]; exact hdest
  unfold State.eventFrame
  rw [if_pos hrun]
  unfold State.produceDrive
  rw [haddr]
  exact State.joinPair_eq _ s

end Sys2Proof.Machine
end

section
/-! PROOF. The regulation event at a take of ARM_m (O20), assembled from its parts. -/

namespace Sys2Proof.Machine

variable {s t u : State} {f : RawFrame} {b : Bank} {e : SlotEntry} {m : Motor}

/-- R14: what a take of ARM_m without fault latches. -/
theorem latchArm_fresh {w0 w1 w2 : Word} (h : bitsOf w0 0 4 = 0) : latchArm e w0 w1 w2 =
    ⟨e.condition w1.toInt, e.condition w2.toInt, w0.getLsbD 4, 0, ⟨.fresh, true, 0, false⟩⟩ := by
  simp [latchArm, h, qualityOf, RoleStatus.takenWith]

/-- The state in which a regulation event at a take of ARM_m begins. -/
def State.armLatched (m : Motor) (x : ArmLatch) (s : State) : State :=
  { s with
    intake := { s.intake with arm := s.intake.arm.set m x }
    tru := { s.tru with converterFault := s.tru.converterFault.set m none } }

/-- R16: a take of ARM_m after the reference event, with the motor's own event not made. -/
theorem exec_regulates (h : s.takesSample f b e) (hrole : e.role = .arm m) {w0 w1 w2 : Word} (hp : f.payload = [w0, w1, w2])
    (hfault : bitsOf w0 0 4 = 0) (hmade : s.intake.refMade = true) (hdue : s.intake.regMade.get m = false) :
    ∃ v : State, exec (.sampleFrame f) s = .next (v.regulationEvent m) ∧ v = (s.forward f).armLatched m
      ⟨e.condition w1.toInt, e.condition w2.toInt, w0.getLsbD 4, 0, ⟨.fresh, true, 0, false⟩⟩ := by
  refine ⟨_, ?_, rfl⟩
  rw [exec_takesArm h hrole hp, latchArm_fresh hfault]
  exact congrArg Host.Outcome.next (State.takeArm_due rfl (by rw [s.forward_intake]; exact hmade)
    (by rw [s.forward_intake]; exact hdue))

/-- What the parts of an event read of the state in which it begins. -/
structure ArmLatchedIn (s : State) (f : RawFrame) (b : Bank) (m : Motor) (x : ArmLatch) (v : State) : Prop where
  intake : v.intake = { s.intake with arm := s.intake.arm.set m x }
  sched : v.sched = s.sched
  lim : v.lim = s.lim
  reg : v.reg = s.reg
  vib : v.vib = s.vib
  seq : v.seq = s.seq
  first : v.tru.first = s.tru.first
  rpt : v.rpt = s.rpt
  strap : v.rp.strap = s.rp.strap
  cycleTag : v.cycleTag = f.tag
  active : v.sched.active = some b

theorem ArmLatchedIn.of_takes (h : s.takesSample f b e) (m : Motor) (x : ArmLatch) :
    ArmLatchedIn s f b m x ((s.forward f).armLatched m x) where
  intake := by
    unfold State.armLatched
    dsimp only
    rw [s.forward_intake]
  sched := s.forward_sched f
  lim := s.forward_lim f
  reg := s.forward_reg f
  vib := s.forward_vib f
  seq := s.forward_seq f
  first := by
    unfold State.armLatched
    dsimp only
    rw [s.forward_tru f]
  rpt := s.forward_rpt f
  strap := s.forward_strap f
  cycleTag := congrArg (·.getD 0) ((congrArg Intake.cycle (s.forward_intake f)).trans h.2.2.1)
  active := (congrArg Schedule.active (s.forward_sched f)).trans (State.classify_active h.2.1)

/-- R16: the latch of motor `m` as its event reads it. -/
theorem ArmLatchedIn.arm {x : ArmLatch} {v : State} (h : ArmLatchedIn s f b m x v) : v.intake.arm.get m = x := by
  rw [h.intake]
  exact PerMotor.get_set ..

/-- R79: the loop values, by the state before the take. -/
theorem ArmLatchedIn.loopOf {x : ArmLatch} {v : State} (h : ArmLatchedIn s f b m x v) : v.loopOf b m =
    regulateLoop (s.reg.get m).acc b.speed[s.sched.rowInForce].kp b.speed[s.sched.rowInForce].ki b.dc.g0.vlim
      (s.lim.motor.get m).iref x.current := by
  unfold State.loopOf
  rw [h.arm, h.reg, h.lim, h.sched]
  rfl

theorem raisesSaturation_iff {r : Regulator} {flagged : Bool} {limit : Nat} : raisesSaturation r flagged limit = true ↔
    flagged = true ∧ limit ≤ (if flagged then min 1000 (r.satCount + 1) else 0) ∧ r.satRaised = false := by
  unfold raisesSaturation satCountAfter
  rw [Bool.and_eq_true, Bool.and_eq_true, decide_eq_true_eq, Bool.not_eq_true', and_assoc]
  exact Iff.rfl

/-! ## An event that raises nothing, and one outside the running states -/

/-- R78, R85: the regulator `r` and the measured torque `p` of motor `m`'s event in place, and the event reported. -/
def State.eventDone (m : Motor) (r : Regulator) (p : Option MeasuredTorque) (s : State) : State :=
  { s with
    intake := { s.intake with regMade := s.intake.regMade.set m true }
    reg := s.reg.set m r
    lim := { s.lim with motor := s.lim.motor.set m { s.lim.motor.get m with prevTorque := p } } }

/-- R185: the echo of the event that completes the pair. -/
def State.eventEchoed (m : Motor) (s s' : State) : State :=
  if s.intake.regMade.set m true = ⟨true, true⟩ then
    s'.joinPair (makeFrame 0 s.rp.strap kindEcho s.cycleTag s'.echoWords)
  else s'

/-- R78 to R86: an event in a running state that raises no cause and sees no shock. -/
theorem State.regulationEvent_quiet (hb : s.sched.active = some b) (hrun : s.seq.drive.isRunning = true)
    (hsat : s.saturates b m = false) (htaken : (s.intake.arm.get m).status.taken = true)
    (hover : ¬ b.dc.g0.iTrip < (s.intake.arm.get m).current.natAbs)
    (hshock : s.shockSeen b m (s.sched.speedRow b).flux = false) {dest : Addr} (hdest : b.armAddr m = some dest) :
    s.regulationEvent m = s.eventEchoed m ((s.eventDone m
      { (s.reg.get m).regulated (s.loopOf b m) b.dc.g0.satLimit with overcurrent := false }
      (some ⟨measuredTorque (s.intake.arm.get m).current (s.sched.speedRow b).flux,
        (s.intake.arm.get m).status.quality, 0⟩)).joinPair
      (makeFrame dest s.rp.strap kindDrive s.cycleTag
        [1, wordOfInt (s.loopOf b m).output, wordOfNat (s.sched.speedRow b).fieldRef])) := by
  generalize hF : makeFrame dest s.rp.strap kindDrive s.cycleTag
    [1, wordOfInt (s.loopOf b m).output, wordOfNat (s.sched.speedRow b).fieldRef] = F
  have hframe : s.regulate b m = { s.loopClosed b m with rp := ((s.loopClosed b m).joinPair F).rp } := by
    rw [State.regulate_eq, if_neg (by rw [hsat]; exact nofun), ← hF]
    exact State.eventFrame_running (s := s.loopClosed b m) hb hrun hdest ..
  generalize hp : ((s.loopClosed b m).joinPair F).rp = p at hframe
  have hstrap : p.strap = s.rp.strap := by
    rw [← hp, State.joinPair_strap]
    rfl
  have hoc : (s.regulate b m).testOvercurrent b m = (s.regulate b m).overcurrentSet m false := by
    rw [hframe]
    exact (State.testOvercurrent_eq (s := { s.loopClosed b m with rp := p }) htaken).trans (if_neg hover)
  have htorque : ((s.regulate b m).overcurrentSet m false).measureTorque b m (s.sched.speedRow b).flux =
      State.torqueKept m (some ⟨measuredTorque (s.intake.arm.get m).current (s.sched.speedRow b).flux,
        (s.intake.arm.get m).status.quality, 0⟩) ((s.regulate b m).overcurrentSet m false) := by
    rw [hframe]
    exact congrArg (State.torqueKept m _) (if_neg fun h => Bool.false_ne_true (hshock.symm.trans h))
  generalize hz : s.eventDone m { (s.reg.get m).regulated (s.loopOf b m) b.dc.g0.satLimit with overcurrent := false }
    (some ⟨measuredTorque (s.intake.arm.get m).current (s.sched.speedRow b).flux,
        (s.intake.arm.get m).status.quality, 0⟩) = z
  have hjoin : z.joinPair F = { z with rp := p } := by
    have hrp : (z.joinPair F).rp = p := (State.joinPair_rp_congr F (by rw [← hz]; rfl)).trans hp
    rw [State.joinPair_eq, hrp]
  have hdone : ({ State.torqueKept m (some ⟨measuredTorque (s.intake.arm.get m).current (s.sched.speedRow b).flux,
        (s.intake.arm.get m).status.quality, 0⟩) ((s.regulate b m).overcurrentSet m false) with
      intake := { s.intake with regMade := s.intake.regMade.set m true } } : State) = { z with rp := p } := by
    rw [← hz, hframe]
    unfold State.torqueKept State.overcurrentSet State.eventDone State.loopClosed
    simp only [PerMotor.set_set, PerMotor.get_set]
  rw [State.regulationEvent_running hb hrun, hoc, htorque, State.reportRegulation_eq, hjoin, ← hdone, hframe]
  unfold State.eventEchoed
  rw [← hstrap]
  rfl

/-- R84, R89: an event outside the running states with the current within its limit. -/
theorem State.regulationEvent_unregulated (hb : s.sched.active = some b) (hrun : s.seq.drive.isRunning = false)
    (htaken : (s.intake.arm.get m).status.taken = true)
    (hover : ¬ b.dc.g0.iTrip < (s.intake.arm.get m).current.natAbs) :
    s.regulationEvent m = s.eventEchoed m (s.eventDone m
      { (s.reg.get m).unregulated with overcurrent := false } none) := by
  generalize hw : ({ s with reg := s.reg.set m (s.reg.get m).unregulated } : State) = w
  have hoc : w.testOvercurrent b m = w.overcurrentSet m false := by
    rw [← hw]
    exact (State.testOvercurrent_eq (s := { s with reg := s.reg.set m (s.reg.get m).unregulated }) htaken).trans (if_neg hover)
  have hdone : ({ State.forgetTorque m (w.overcurrentSet m false) with
      intake := { s.intake with regMade := s.intake.regMade.set m true } } : State) =
      s.eventDone m { (s.reg.get m).unregulated with overcurrent := false } none := by
    rw [← hw]
    unfold State.forgetTorque State.overcurrentSet State.eventDone
    simp only [PerMotor.set_set, PerMotor.get_set]
  rw [State.regulationEvent_idle hb hrun, hw, hoc, State.reportRegulation_eq, ← hdone, ← hw]
  rfl

/-- R84, R89: an event outside the running states with the current above its limit. -/
theorem State.regulationEvent_excess (hb : s.sched.active = some b) (hrun : s.seq.drive.isRunning = false)
    (htaken : (s.intake.arm.get m).status.taken = true)
    (hover : b.dc.g0.iTrip < (s.intake.arm.get m).current.natAbs) :
    let t := s.regulationEvent m
    t.reg = s.reg.set m { (s.reg.get m).unregulated with overcurrent := true } ∧
    t.lim.motor = s.lim.motor.set m { s.lim.motor.get m with prevTorque := none } ∧
    RaisedOrKept True ⟨.overcurrent m, .motor m, (s.intake.arm.get m).current⟩ s t := by
  intro t
  generalize hw : ({ s with reg := s.reg.set m (s.reg.get m).unregulated } : State) = w
  have ht : t = State.reportRegulation m (State.forgetTorque m (w.testOvercurrent b m)) := by
    rw [← hw]
    exact State.regulationEvent_idle hb hrun m
  have hoc : w.testOvercurrent b m = (w.overcurrentSet m true).raiseCause (.overcurrent m) (.motor m)
      (s.intake.arm.get m).current := by
    rw [← hw]
    exact (State.testOvercurrent_eq (s := { s with reg := s.reg.set m (s.reg.get m).unregulated }) htaken).trans (if_pos hover)
  generalize hx : w.testOvercurrent b m = x at ht hoc
  have hxreg : x.reg = s.reg.set m { (s.reg.get m).unregulated with overcurrent := true } := by
    rw [hoc, State.raiseCause_reg_idle (by rw [← hw]; exact hrun), ← hw]
    unfold State.overcurrentSet
    simp only [PerMotor.set_set, PerMotor.get_set]
  have hxmotor : x.lim.motor = s.lim.motor := by
    rw [hoc, State.raiseCause_motor, ← hw]
    rfl
  have hraise := RaisedOrKept.raiseCause (.overcurrent m) (.motor m) (s.intake.arm.get m).current (w.overcurrentSet m true)
  rw [← hoc] at hraise
  refine ⟨?_, ?_, hraise.congr ⟨fun _ => State.classOf_overcurrent m _, fun _ => trivial⟩ ?_ ?_ ?_ ?_⟩
  · rw [ht, State.reportRegulation_reg]
    exact hxreg
  · rw [ht, State.reportRegulation_lim]
    unfold State.forgetTorque
    dsimp only
    rw [hxmotor]
  · rw [← hw]
    rfl
  · rw [← hw]
    rfl
  · rw [ht, State.reportRegulation_seq]
    rfl
  · rw [ht, State.reportRegulation_tru]
    rfl

/-- R83: the raised flag stands where the flag does and it stood already or is raised now. -/
theorem satRaised_regulated {r : Regulator} {x : Regulated} {limit : Nat} : (r.regulated x limit).satRaised = true ↔
    x.flagged = true ∧ (r.satRaised = true ∨ limit ≤ (if x.flagged then min 1000 (r.satCount + 1) else 0)) := by
  unfold Regulator.regulated
  rw [Bool.and_eq_true, Bool.or_eq_true, raisesSaturation_iff]
  cases r.satRaised <;> simp only [Bool.false_eq_true, false_or, true_or, and_true, and_self_left]

/-- R142: of three raises one after the other, each declaring a trip outside BLOCKED and TRIPPED, the first that can declares it. -/
theorem RaisedOrKept.chain {p1 p2 p3 : Prop} {r1 r2 r3 : CauseRecord} {x y : State} (h1 : RaisedOrKept p1 r1 s t)
    (h2 : RaisedOrKept p2 r2 t x) (h3 : RaisedOrKept p3 r3 x y) (hb : s.seq.drive ≠ .blocked) (ht : s.seq.drive ≠ .tripped) :
    (p1 → y.seq.drive = .tripped ∧ y.tru.first = some r1) ∧ (¬ p1 → p2 → y.seq.drive = .tripped ∧ y.tru.first = some r2) ∧
    (¬ p1 → ¬ p2 → p3 → y.seq.drive = .tripped ∧ y.tru.first = some r3) ∧
    (¬ p1 → ¬ p2 → ¬ p3 → y.seq = s.seq ∧ y.tru.first = s.tru.first) := by
  refine ⟨fun hp1 => ?_, fun hp1 hp2 => ?_, fun hp1 hp2 hp3 => ?_, fun hp1 hp2 hp3 => ?_⟩
  · obtain ⟨hd1, hf1⟩ := h1.declared hp1 hb ht
    obtain ⟨hd2, hf2⟩ := h2.kept (Or.inr (Or.inr hd1))
    rw [← hd2] at hd1
    obtain ⟨hd3, hf3⟩ := h3.kept (Or.inr (Or.inr hd1))
    exact ⟨hd3 ▸ hd1, hf3.trans (hf2.trans hf1)⟩
  · obtain ⟨hd1, hf1⟩ := h1.kept (Or.inl hp1)
    obtain ⟨hd2, hf2⟩ := h2.declared hp2 (hd1 ▸ hb) (hd1 ▸ ht)
    obtain ⟨hd3, hf3⟩ := h3.kept (Or.inr (Or.inr hd2))
    exact ⟨hd3 ▸ hd2, hf3.trans hf2⟩
  · obtain ⟨hd1, hf1⟩ := h1.kept (Or.inl hp1)
    obtain ⟨hd2, hf2⟩ := h2.kept (Or.inl hp2)
    exact h3.declared hp3 (hd2 ▸ hd1 ▸ hb) (hd2 ▸ hd1 ▸ ht)
  · obtain ⟨hd1, hf1⟩ := h1.kept (Or.inl hp1)
    obtain ⟨hd2, hf2⟩ := h2.kept (Or.inl hp2)
    obtain ⟨hd3, hf3⟩ := h3.kept (Or.inl hp3)
    exact ⟨hd3.trans (hd2.trans hd1), hf3.trans (hf2.trans hf1)⟩

/-- Settles O20: the event's parts one after the other, each by what it leaves. -/
theorem armatureRegulates : Obligations.ArmatureRegulates := by
  intro s f b e m w0 w1 w2 h hrole hp hfault hrefMade hdue u g row r lim i volts x tmeas count saturates excess shock shocks
    tripClass satIndex declared sat overcurrent made after echoed
  obtain ⟨v, hexec, hv⟩ := exec_regulates h hrole hp hfault hrefMade hdue
  have hin := ArmLatchedIn.of_takes h m ⟨i, volts, w0.getLsbD 4, 0, ⟨.fresh, true, 0, false⟩⟩
  rw [← show v = (s.forward f).armLatched m ⟨i, volts, w0.getLsbD 4, 0, ⟨.fresh, true, 0, false⟩⟩ from hv] at hin
  have hsat : sat = .saturation m := by cases m <;> rfl
  have hover : overcurrent = .overcurrent m := by cases m <;> rfl
  have hloop : v.loopOf b m = x := hin.loopOf
  have hsaturates : v.saturates b m = true ↔ saturates := by
    unfold State.saturates
    rw [hloop, hin.reg]
    exact raisesSaturation_iff
  have hmade : v.intake.regMade.set m true = made := by rw [hin.intake]
  have htaken : (v.intake.arm.get m).status.taken = true := by rw [hin.arm]
  have harm : v.intake.arm.get m = ⟨i, volts, w0.getLsbD 4, 0, ⟨.fresh, true, 0, false⟩⟩ := hin.arm
  have hshocked : v.shockSeen b m row.flux = shock := by
    unfold State.shockSeen
    rw [harm, hin.lim]
    exact isShock_fresh ..
  have hrow : v.sched.speedRow b = row := by rw [hin.sched]; rfl
  have hdone : ∀ r' p, v.eventDone m r' p = after r' p := fun r' p => by
    have hlim : u.lim.motor.get m = lim := congrArg (fun l : Limiter => l.motor.get m) (s.forward_lim f)
    dsimp only [after]
    rw [← hlim, ← hmade, hv]
    rfl
  have hechoed : ∀ w, v.eventEchoed m w = echoed w := fun w => by
    unfold State.eventEchoed
    rw [hmade, hin.strap, hin.cycleTag]
  rw [hexec]
  refine ⟨fun hrun => ?_, fun hidle => ?_⟩
  · have hvrun : v.seq.drive.isRunning = true := by rw [hin.seq]; exact hrun
    refine ⟨fun hns hne hnk dest hdest => ?_, ?_⟩
    · rw [State.regulationEvent_quiet hin.active hvrun (by rw [← Bool.not_eq_true, hsaturates]; exact hns) htaken
        (by rw [harm]; exact hne) (by rw [hrow, hshocked]; exact hnk) hdest, hechoed, hdone, harm, hrow, hloop, hin.strap,
        hin.cycleTag, hin.reg]
      have hraises : raisesSaturation r x.flagged g.satLimit = false := by
        rw [← Bool.not_eq_true, raisesSaturation_iff]
        exact hns
      unfold Regulator.regulated
      rw [hraises, Bool.or_false]
      rfl
    · obtain ⟨hacc1, hcount1, hraised1, hshocks1, hraise1, hwarn⟩ := State.regulate_spec hin.active m
      have htaken1 : ((v.regulate b m).intake.arm.get m).status.taken = true := by rw [State.regulate_intake]; exact htaken
      obtain ⟨hacc2, hcount2, hraised2, hover2, hshocks2, hraise2, hkeeps2⟩ := State.testOvercurrent_spec htaken1 b
      generalize hv2 : (v.regulate b m).testOvercurrent b m = v2 at *
      have hactive2 : v2.sched.active = some b := by
        rw [← hv2, State.testOvercurrent_active, State.regulate_active]
        exact hin.active
      have hintake2 : v2.intake = v.intake := by rw [← hv2, State.testOvercurrent_intake, State.regulate_intake]
      have hmotor2 : v2.lim.motor = s.lim.motor := by rw [← hv2, State.testOvercurrent_motor, State.regulate_motor, hin.lim]
      have hvib2 : v2.vib = s.vib := by rw [← hv2, State.testOvercurrent_vib, State.regulate_vib, hin.vib]
      have hlist2 : v2.lim.shocks = s.lim.shocks := by rw [hshocks2, hshocks1, hin.lim]
      have htag2 : v2.cycleTag = f.tag := by
        unfold State.cycleTag
        rw [hintake2]
        exact hin.cycleTag
      have hseen2 : v2.shockSeen b m row.flux = shock := by
        rw [← hshocked]
        unfold State.shockSeen
        rw [hmotor2, hintake2, hin.lim]
      obtain ⟨hacc3, hcount3, hraised3, hover3, hprev, hnone, hshock, hvib, hraise3, hkeeps3⟩ :=
        State.measureTorque_spec hactive2 m row.flux
      rw [hseen2] at hnone hshock hvib hraise3
      rw [hlist2, htag2, pushShock_eq] at hshock hraise3
      rw [hlist2, hmotor2] at hnone
      rw [hmotor2] at hshock
      rw [hvib2] at hvib
      rw [hintake2, harm] at hprev
      rw [State.regulate_intake, harm] at hover2 hraise2
      rw [hloop, hin.reg] at hacc1 hcount1 hraised1
      have hclass : v.classOf (.saturation m) = b.dc.g3.classes[satIndex] := State.classOf_saturation hin.active m
      rw [hclass, hsaturates, hloop, ← hsat] at hraise1
      rw [hclass, hsaturates] at hwarn
      rw [← hover] at hraise2
      have hrunning : s.seq.drive ≠ .blocked ∧ s.seq.drive ≠ .tripped := by
        constructor <;> intro hd <;> rw [hd] at hrun <;> exact absurd hrun nofun
      have hchain := hraise1.chain hraise2 hraise3 (by rw [hin.seq]; exact hrunning.1) (by rw [hin.seq]; exact hrunning.2)
      rw [hin.seq, hin.first] at hchain
      obtain ⟨hfirst, hsecond, hthird, hkept⟩ := hchain
      rw [State.regulationEvent_running hin.active hvrun, hv2, hrow]
      generalize hv3 : v2.measureTorque b m row.flux = v3 at *
      have htl := v3.reportRegulation_lim m
      have htr := v3.reportRegulation_reg m
      have htv := v3.reportRegulation_vib m
      have htq := v3.reportRegulation_seq m
      have htt := v3.reportRegulation_tru m
      have htp := v3.reportRegulation_rpt m
      have hti := v3.reportRegulation_intake m
      generalize State.reportRegulation m v3 = t at *
      rw [← htl] at hprev hnone hshock
      rw [← htr] at hacc3 hcount3 hraised3 hover3
      rw [← htv] at hvib
      rw [← htp] at hshock hkeeps3
      rw [← htq, ← htt] at hfirst hsecond hthird hkept
      refine ⟨t, rfl, ?_, hacc3.trans (hacc2.trans hacc1), hcount3.trans (hcount2.trans hcount1), ?_, ?_, hprev, hnone, hshock, hvib,
        hfirst, fun hs hw => ?_, hsecond, hthird, hkept⟩
      · rw [hti, ← hv3, State.measureTorque_intake, hintake2]
        exact hmade
      · rw [hraised3, hraised2, hraised1]
        exact satRaised_regulated
      · rw [hover3]
        exact hover2
      · have hset := hkeeps3 _ (hkeeps2 _ (hwarn hs hw))
        exact hset
  · intro quiet
    have hvidle : v.seq.drive.isRunning = false := by rw [hin.seq]; exact hidle
    refine ⟨fun hne => ?_, fun he => ?_⟩
    · rw [State.regulationEvent_unregulated hin.active hvidle htaken (by rw [harm]; exact hne), hechoed, hdone, hin.reg]
      rfl
    · obtain ⟨hreg, hmotor, hraise⟩ := State.regulationEvent_excess hin.active hvidle htaken (by rw [harm]; exact he)
      rw [harm, hover.symm] at hraise
      refine ⟨_, rfl, ?_, ?_, fun hd => ?_, fun hd => ?_⟩
      · rw [hreg, hin.reg]
        exact congrArg (fun q : PerMotor Regulator => q.set m _) (s.forward_reg f).symm
      · rw [hmotor, hin.lim]
        exact congrArg (fun q : Limiter => q.motor.set m _) (s.forward_lim f).symm
      · refine hraise.declared trivial ?_ ?_ <;> rw [hin.seq] <;> rcases hd with hd | hd <;> rw [hd] <;> exact nofun
      · rw [← hin.seq, ← hin.first]
        refine hraise.kept (Or.inr ?_)
        rw [hin.seq]
        exact hd

end Sys2Proof.Machine
end

section
/-! PROOF. The confirmation of a channel at a compared window (O33). -/

namespace Sys2Proof.Machine

variable {c : Confirmation} {g : Group2} {cell : VibCell} {raw : RawResult} {ms level : Nat}

theorem Confirmation.step_dead (h : c.state = .dead) : c.step g cell raw ms = c.stepDead g cell raw ms (releaseLevel g cell) :=
  if_pos h

theorem Confirmation.step_live (h : c.state ≠ .dead) : c.step g cell raw ms = c.stepLive g raw ms (releaseLevel g cell) :=
  if_neg h

/-- R102: entry to ALARM. -/
theorem Confirmation.entered_alarm (h : c.state = .normal ∨ c.state = .warning) (hcount : g.confirmWindows ≤ c.alarm) :
    c.entered g = ({ c with state := .alarm, release := 0, persist := 0, persistRaised := false }, [.alarmEntry]) :=
  if_pos ⟨h, hcount⟩

/-- R102: entry to WARNING. -/
theorem Confirmation.entered_warning (h : c.state = .normal) (halarm : c.alarm < g.confirmWindows)
    (hwarn : g.confirmWindows ≤ c.warn) : c.entered g = ({ c with state := .warning, release := 0 }, [.warningEntry]) :=
  (if_neg fun hx => Nat.not_le_of_lt halarm hx.2).trans (if_pos ⟨h, hwarn⟩)

/-- R102: no entry without a counter at confirm_windows. -/
theorem Confirmation.entered_none (halarm : c.alarm < g.confirmWindows ∨ c.state = .alarm)
    (hwarn : c.warn < g.confirmWindows ∨ c.state = .alarm ∨ c.state = .warning) : c.entered g = (c, []) := by
  have h1 : ¬ ((c.state = .normal ∨ c.state = .warning) ∧ g.confirmWindows ≤ c.alarm) := by
    rintro ⟨hs, hc⟩
    rcases halarm with h | h
    · omega
    · rcases hs with hs | hs <;> rw [hs] at h <;> exact nomatch h
  have h2 : ¬ (c.state = .normal ∧ g.confirmWindows ≤ c.warn) := by
    rintro ⟨hs, hc⟩
    rcases hwarn with h | h | h
    · omega
    · exact nomatch hs.symm.trans h
    · exact nomatch hs.symm.trans h
  exact (if_neg h1).trans (if_neg h2)

/-- R102: a confirmation entered is as it was, or in WARNING or ALARM. -/
theorem Confirmation.entered_state : (c.entered g).1.state = c.state ∨ (c.entered g).1.state = .warning ∨
    (c.entered g).1.state = .alarm := by
  unfold Confirmation.entered
  split
  · exact Or.inr (Or.inr rfl)
  · split
    · exact Or.inr (Or.inl rfl)
    · exact Or.inl rfl

/-- R103: no release under the latch, or short of release_windows. -/
theorem Confirmation.released_none (h : g.vibLatch = true ∨ c.release < g.releaseWindows) : c.released g = c := by
  refine if_neg ?_
  rintro ⟨-, hlatch, hcount⟩
  rcases h with h | h
  · rw [h] at hlatch
    exact nomatch hlatch
  · omega

theorem Confirmation.released_state : (c.released g).state = c.state ∨ (c.released g).state = .normal := by
  unfold Confirmation.released
  split
  · exact Or.inr rfl
  · exact Or.inl rfl

/-- R104: no entry to DEAD from a state other than NORMAL, or short of dead_windows. -/
theorem Confirmation.died_none (h : c.state ≠ .normal ∨ c.dead < g.deadWindows) : c.died g = (c, []) := by
  refine if_neg ?_
  rintro ⟨hs, hcount⟩
  rcases h with h | h
  · exact h hs
  · omega

/-- R105: no persistence outside ALARM, or with a count of 0. -/
theorem Confirmation.persisted_none (h : c.state ≠ .alarm ∨ c.persist = 0) : c.persisted g = (c, []) := by
  refine if_neg ?_
  rintro ⟨hs, hwindows, -, hcount⟩
  rcases h with h | h
  · exact h hs
  · omega

theorem Confirmation.persisted_state : (c.persisted g).1.state = c.state := by
  unfold Confirmation.persisted
  split <;> rfl

/-- R101 to R105: a compared window of a live channel, by what each of its parts makes. -/
theorem Confirmation.step_parts {c0 c1 c2 c3 c4 : Confirmation} {e1 e3 e4 : List VibEvent} (hlive : c.state ≠ .dead)
    (hcounted : c.counted raw ms (releaseLevel g cell) = c0) (hentered : c0.entered g = (c1, e1))
    (hreleased : c1.released g = c2) (hdied : c2.died g = (c3, e3)) (hpersisted : c3.persisted g = (c4, e4)) :
    c.step g cell raw ms = (c4, e1 ++ e3 ++ e4) := by
  rw [Confirmation.step_live hlive]
  unfold Confirmation.stepLive
  dsimp only
  rw [hcounted, hentered, hreleased, hdied, hpersisted]

/-- R102: entry to ALARM from NORMAL or WARNING. -/
theorem Confirmation.step_alarmEntry (hs : c.state = .normal ∨ c.state = .warning) (hcount : g.confirmWindows ≤ min 255 (c.alarm + 1))
    (hrelease : 1 ≤ g.releaseWindows) : c.step g cell .aboveAlarm ms =
      (⟨.alarm, min 255 (c.alarm + 1), min 255 (c.warn + 1), 0, 0, 0, false⟩, [.alarmEntry]) :=
  Confirmation.step_parts (by rcases hs with h | h <;> rw [h] <;> exact nofun) rfl (Confirmation.entered_alarm hs hcount)
    (Confirmation.released_none (Or.inr hrelease)) (Confirmation.died_none (Or.inl nofun)) (Confirmation.persisted_none (Or.inr rfl))

/-- R102: entry to WARNING from NORMAL. -/
theorem Confirmation.step_warningEntry (hs : c.state = .normal) (hcount : g.confirmWindows ≤ min 255 (c.warn + 1))
    (hconfirm : 1 ≤ g.confirmWindows) (hrelease : 1 ≤ g.releaseWindows) : c.step g cell .aboveWarn ms =
      (⟨.warning, 0, min 255 (c.warn + 1), 0, 0, 0, false⟩, [.warningEntry]) := by
  have hcounted : c.counted .aboveWarn ms (releaseLevel g cell) = ⟨.normal, 0, min 255 (c.warn + 1), 0, 0, 0, false⟩ := by
    simp [Confirmation.counted, countIf, bumpBy, hs]
  exact Confirmation.step_parts (by rw [hs]; exact nofun) hcounted (Confirmation.entered_warning rfl hconfirm hcount)
    (Confirmation.released_none (Or.inr hrelease)) (Confirmation.died_none (Or.inl nofun)) (Confirmation.persisted_none (Or.inl nofun))

/-- R103: under the latch WARNING and ALARM are not left. -/
theorem Confirmation.step_latched (hs : c.state = .warning ∨ c.state = .alarm) (hlatch : g.vibLatch = true) :
    (c.step g cell raw ms).1.state = .warning ∨ (c.step g cell raw ms).1.state = .alarm := by
  have hlive : c.state ≠ .dead := by rcases hs with h | h <;> rw [h] <;> exact nofun
  have hentered : ((c.counted raw ms (releaseLevel g cell)).entered g).1.state = .warning ∨
      ((c.counted raw ms (releaseLevel g cell)).entered g).1.state = .alarm := by
    rcases (c.counted raw ms (releaseLevel g cell)).entered_state (g := g) with h | h
    · rw [h]
      exact hs
    · exact h
  have hnormal : ((c.counted raw ms (releaseLevel g cell)).entered g).1.state ≠ .normal := by
    rcases hentered with h | h <;> rw [h] <;> exact nofun
  rw [Confirmation.step_live hlive]
  unfold Confirmation.stepLive
  dsimp only
  rw [Confirmation.persisted_state, Confirmation.released_none (Or.inl hlatch), Confirmation.died_none (Or.inl hnormal)]
  exact hentered

/-- R103: release to NORMAL without the latch. -/
theorem Confirmation.step_released (hs : c.state = .warning ∨ c.state = .alarm) (hlatch : g.vibLatch = false)
    (hms : ms < releaseLevel g cell) (hcount : g.releaseWindows ≤ min 255 (c.release + 1)) (hconfirm : 1 ≤ g.confirmWindows)
    (hdead : 1 ≤ g.deadWindows) : c.step g cell .normal ms = (⟨.normal, 0, 0, 0, 0, 0, false⟩, []) := by
  have hcounted : c.counted .normal ms (releaseLevel g cell) = ⟨c.state, 0, 0, min 255 (c.release + 1), 0, 0, false⟩ := by
    rcases hs with h | h <;> simp [Confirmation.counted, countIf, bumpBy, h, hms]
  exact Confirmation.step_parts (by rcases hs with h | h <;> rw [h] <;> exact nofun) hcounted
    (Confirmation.entered_none (Or.inl hconfirm) (Or.inl hconfirm)) (if_pos ⟨hs, hlatch, hcount⟩)
    (Confirmation.died_none (Or.inr hdead)) (Confirmation.persisted_none (Or.inl nofun))

/-- R104: entry to DEAD from NORMAL. -/
theorem Confirmation.step_deadEntry (hs : c.state = .normal) (hcount : g.deadWindows ≤ min 255 (c.dead + 1))
    (hconfirm : 1 ≤ g.confirmWindows) (hrelease : 1 ≤ g.releaseWindows) : c.step g cell .belowDead ms =
      (⟨.dead, 0, 0, 0, min 255 (c.dead + 1), 0, false⟩, [.deadEntry]) := by
  have hcounted : c.counted .belowDead ms (releaseLevel g cell) = ⟨.normal, 0, 0, 0, min 255 (c.dead + 1), 0, false⟩ := by
    simp [Confirmation.counted, countIf, bumpBy, hs]
  exact Confirmation.step_parts (by rw [hs]; exact nofun) hcounted (Confirmation.entered_none (Or.inl hconfirm) (Or.inl hconfirm))
    (Confirmation.released_none (Or.inr hrelease)) (if_pos ⟨rfl, hcount⟩) (Confirmation.persisted_none (Or.inl nofun))

/-- R105: persistence in ALARM, raised once. -/
theorem Confirmation.step_persists (hs : c.state = .alarm) (hms : releaseLevel g cell ≤ ms) (hwindows : 0 < g.persistWindows)
    (hcount : g.persistWindows ≤ min 255 (c.persist + 1)) (hraised : c.persistRaised = false) (hrelease : 1 ≤ g.releaseWindows) :
    c.step g cell .aboveAlarm ms =
      (⟨.alarm, min 255 (c.alarm + 1), min 255 (c.warn + 1), 0, 0, min 255 (c.persist + 1), true⟩, [.persists]) := by
  have hcounted : c.counted .aboveAlarm ms (releaseLevel g cell) =
      ⟨.alarm, min 255 (c.alarm + 1), min 255 (c.warn + 1), 0, 0, min 255 (c.persist + 1), false⟩ := by
    simp [Confirmation.counted, countIf, bumpBy, hs, hraised, Nat.not_lt_of_le hms]
  exact Confirmation.step_parts (by rw [hs]; exact nofun) hcounted (Confirmation.entered_none (Or.inr rfl) (Or.inr (Or.inl rfl)))
    (Confirmation.released_none (Or.inr hrelease)) (Confirmation.died_none (Or.inl nofun)) (if_pos ⟨rfl, hwindows, rfl, hcount⟩)

/-- R104: a DEAD channel below dead_lo. -/
theorem Confirmation.step_staysDead (hs : c.state = .dead) (hms : ms < cell.deadLo) : c.step g cell raw ms =
    (⟨.dead, 0, 0, 0, if raw = .belowDead then min 255 (c.dead + 1) else 0, 0, c.persistRaised⟩, []) := by
  rw [Confirmation.step_dead hs]
  refine (if_neg (Nat.not_le_of_lt hms)).trans ?_
  cases raw <;> simp [countIf, bumpBy, hs]

/-- R104: a DEAD channel at dead_lo or above. -/
theorem Confirmation.step_leavesDead (hs : c.state = .dead) (hms : cell.deadLo ≤ ms) : (c.step g cell raw ms).1.state ≠ .dead := by
  rw [Confirmation.step_dead hs]
  unfold Confirmation.stepDead
  rw [if_pos hms]
  dsimp only
  rcases Confirmation.released_state (g := g) with h | h <;> rw [h]
  · rcases Confirmation.entered_state (g := g) with h | h | h <;> rw [h] <;> exact nofun
  · exact nofun

/-- Settles O33: each clause is a path through entry, release, death and persistence. -/
theorem confirmationRules : Obligations.ConfirmationRules := by
  intro c g cell raw ms hconfirm hrelease hdead level one
  refine ⟨fun hs hraw hcount => ?_, fun hs hraw hcount => ?_, fun hs hlatch => Confirmation.step_latched hs hlatch,
    fun hs hlatch hraw hms hcount => ?_, fun hs hraw hcount => ?_, fun hs hms => Confirmation.step_staysDead hs hms,
    fun hs hms => Confirmation.step_leavesDead hs hms, fun hs hraw hms hwindows hcount hraised => ?_⟩ <;> rw [hraw]
  · exact Confirmation.step_alarmEntry hs hcount hrelease
  · exact Confirmation.step_warningEntry hs hcount hconfirm hrelease
  · exact Confirmation.step_released hs hlatch hms hcount hconfirm hdead
  · exact Confirmation.step_deadEntry hs hcount hconfirm hrelease
  · exact Confirmation.step_persists hs hms hwindows hcount hraised hrelease

end Sys2Proof.Machine
end

section
/-! PROOF. A vibration block (O32): the tracker and the window's sums, the close, and what is raised. -/

namespace Sys2Proof.Machine

variable {s t u : State} {f : RawFrame} {b : Bank} {e : SlotEntry} {k : Fin 4} {x y : Channel}

/-! ## The samples of a block (R97, R98) -/

/-- R97, R98: what one sample does to the tracker and the open window. -/
def sampleFed (sector : Nat) (c : Option Int × Window) (sample : Int) : Option Int × Window :=
  let r := trackSample c.1 sample
  (some r.2, c.2.add r.1 sector)

theorem Channel.samples_fed (sector : Nat) (samples : List Int) (x : Channel) : samples.foldl (Channel.addSample sector) x =
    { x with
      tracker := (samples.foldl (sampleFed sector) (x.tracker, x.window)).1
      window := (samples.foldl (sampleFed sector) (x.tracker, x.window)).2 } := by
  induction samples generalizing x with
  | nil => rfl
  | cons d l ih =>
    rw [List.foldl_cons, List.foldl_cons, ih]
    rfl

theorem samples_keep_blocks (sector : Nat) (samples : List Int) (c : Option Int × Window) :
    (samples.foldl (sampleFed sector) c).2.received = c.2.received ∧ (samples.foldl (sampleFed sector) c).2.missed = c.2.missed := by
  induction samples generalizing c with
  | nil => exact ⟨rfl, rfl⟩
  | cons d l ih => exact ih _

theorem Channel.addBlock_window (x : Channel) (angle : Nat) (samples : List Int) :
    (x.addBlock angle samples).window.received = x.window.received + 1 ∧
    (x.addBlock angle samples).window.missed = x.window.missed := by
  obtain ⟨hreceived, hmissed⟩ := samples_keep_blocks (angle / 64) samples (x.tracker, x.window)
  unfold Channel.addBlock
  rw [Channel.samples_fed]
  exact ⟨congrArg (· + 1) hreceived, hmissed⟩

/-! ## The close of a window (R99 to R107) -/

theorem State.setChannel_same (k : Fin 4) (x : Channel) (s : State) : (s.setChannel k x).channel k = x := by
  rw [State.setChannel_channel, if_pos rfl]

theorem State.setChannel_twice (k : Fin 4) (x y : Channel) (s : State) : (s.setChannel k x).setChannel k y = s.setChannel k y := by
  simp [State.setChannel, Vector.set_set]

/-- R99 to R105: the channel after its window's close. -/
def Channel.closed (g : Group2) (cell : VibCell) (d : DriveState) (row : Fin 32) (x : Channel) : Channel :=
  if x.window.isVoid g.vibWindow then x.closedVoid
  else if d.isRunning then
    { x.closedFull (compareWindow g cell (x.window.sum / x.window.n) d row) with
      conf := (x.conf.step g cell (compareWindow g cell (x.window.sum / x.window.n) d row) (x.window.sum / x.window.n)).1 }
  else x.closedFull .notCompared

theorem Channel.closed_window {g : Group2} {cell : VibCell} {d : DriveState} {row : Fin 32} :
    (x.closed g cell d row).window = Window.empty := by
  unfold Channel.closed
  split
  · rfl
  · split <;> rfl

theorem State.raiseVibEvents_vib (k : Fin 4) (peak : Nat) (es : List VibEvent) (s : State) :
    (es.foldl (fun t e => t.raiseVibEvent k peak e) s).vib = s.vib := by
  induction es generalizing s with
  | nil => rfl
  | cons e es ih =>
    rw [List.foldl_cons, ih]
    cases e <;> simp only [State.raiseVibEvent, State.raiseAttention_vib, State.raiseCause_vib]

/-- R106: what a close raises, as the statement writes it. -/
theorem State.raiseVibration_eq (k : Fin 4) (peak : Nat) (es : List VibEvent) (s : State) :
    s.raiseVibration k peak es = es.foldl (fun t e => t.raiseVibEvent k peak e) s := by
  unfold State.raiseVibration
  exact congrArg (fun g => es.foldl g s) (funext fun t => funext fun e => by cases e <;> rfl)

/-- R99: a VOID window. -/
theorem State.closeWindow_void (h : x.window.isVoid b.dc.g2.vibWindow = true) (s : State) :
    (s.setChannel k x).closeWindow b k = s.setChannel k x.closedVoid := by
  unfold State.closeWindow
  rw [State.setChannel_same]
  exact (if_pos h).trans (State.setChannel_twice ..)

/-- R99: a window closed outside the running states is not compared. -/
theorem State.closeWindow_idle (h : x.window.isVoid b.dc.g2.vibWindow = false) (hrun : s.seq.drive.isRunning = false) :
    (s.setChannel k x).closeWindow b k = s.setChannel k (x.closedFull .notCompared) := by
  unfold State.closeWindow
  rw [State.setChannel_same]
  exact (if_neg (by rw [h]; exact nofun)).trans ((if_neg (by rw [State.setChannel_seq, hrun]; exact nofun)).trans
    (State.setChannel_twice ..))

/-- R100 to R107: a window compared. -/
theorem State.closeWindow_compared (h : x.window.isVoid b.dc.g2.vibWindow = false) {d : DriveState} (hdrive : s.seq.drive = d)
    (hrun : d.isRunning = true) {row : Fin 32} (hrow : s.row = row) {c : Confirmation} (hconf : x.conf = c) :
    let ms := x.window.sum / x.window.n
    let cell := b.vib[row][k]
    let raw := compareWindow b.dc.g2 cell ms d row
    let r := c.step b.dc.g2 cell raw ms
    let z := s.setChannel k { x.closedFull raw with conf := r.1 }
    (s.setChannel k x).closeWindow b k = State.raiseVibration k x.window.peak r.2
      (if (c.state == .alarm) != (r.1.state == .alarm) then z.reformCeiling b b.dc.g2.pinion[k] else z) := by
  intro ms cell raw r z
  subst hdrive hrow hconf
  unfold State.closeWindow
  rw [State.setChannel_same, State.raiseVibration_eq]
  refine (if_neg (by rw [h]; exact nofun)).trans ((if_pos hrun).trans ?_)
  dsimp only
  rw [State.setChannel_twice]
  rfl

theorem State.closeWindow_channels (b : Bank) (k : Fin 4) (x : Channel) {d : DriveState} (hdrive : s.seq.drive = d)
    {row : Fin 32} (hrow : s.row = row) :
    ((s.setChannel k x).closeWindow b k).vib.channels = s.vib.channels.set k (x.closed b.dc.g2 b.vib[row][k] d row) := by
  unfold Channel.closed
  cases h : x.window.isVoid b.dc.g2.vibWindow with
  | true =>
    rw [State.closeWindow_void h, if_pos rfl]
    rfl
  | false =>
    rw [if_neg nofun]
    cases hrun : d.isRunning with
    | false =>
      rw [State.closeWindow_idle h (hdrive ▸ hrun), if_neg nofun]
      rfl
    | true =>
      rw [State.closeWindow_compared h hdrive hrun hrow rfl, if_pos rfl, State.raiseVibration_eq, State.raiseVibEvents_vib]
      split <;> rfl

theorem ceilingOf_eq (b : Bank) (channels : Vector Channel 4) (m : Motor) : ceilingOf b channels m =
    if ∃ j : Fin 4, b.dc.g2.pinion[j] = m ∧ channels[j].conf.state = .alarm then b.dc.g2.derateLevel else 12288 := by
  unfold ceilingOf
  congr 1
  simp

/-- R107: the ceiling after a close, formed again where ALARM is entered or left. -/
theorem State.reformCeiling_changed (b : Bank) (m : Motor) (c c' : Confirmed) (s : State) :
    (if (c == .alarm) != (c' == .alarm) then s.reformCeiling b m else s) = { s with vib := { s.vib with
      ceiling := if c = .alarm ↔ c' = .alarm then s.vib.ceiling else s.vib.ceiling.set m
        (if ∃ j : Fin 4, b.dc.g2.pinion[j] = m ∧ s.vib.channels[j].conf.state = .alarm then b.dc.g2.derateLevel else 12288) } } := by
  rw [← ceilingOf_eq]
  by_cases h : c = .alarm ↔ c' = .alarm
  · rw [if_pos h, if_neg]
    rw [bne_iff_ne, not_not, Bool.eq_iff_iff, beq_iff_eq, beq_iff_eq]
    exact h
  · rw [if_neg h, if_pos]
    · rfl
    · rw [bne_iff_ne, ne_eq, Bool.eq_iff_iff, beq_iff_eq, beq_iff_eq]
      exact h

/-! ## A block in order (R95, R96) -/

/-- R96: a window that is short of vib_window stays open. -/
theorem State.closeIfFull_open (h : x.window.received + x.window.missed < b.dc.g2.vibWindow) (s : State) :
    (s.setChannel k x).closeIfFull b k = s.setChannel k x := by
  unfold State.closeIfFull
  rw [State.setChannel_same]
  exact if_neg (Nat.not_le_of_lt h)

/-- R96: a window that reaches vib_window closes. -/
theorem State.closeIfFull_full (h : b.dc.g2.vibWindow ≤ x.window.received + x.window.missed) (s : State) :
    (s.setChannel k x).closeIfFull b k = (s.setChannel k x).closeWindow b k := by
  unfold State.closeIfFull
  rw [State.setChannel_same]
  exact if_pos h

/-- R95: a block too old. -/
theorem State.vibrationBlock_old (hb : s.sched.active = some b) {q : Nat} (h : 127 < (s.channel k).gap q) (angle : Nat)
    (samples : List Int) : s.vibrationBlock k q angle samples =
      s.setChannel k { s.channel k with oldBlocks := bump (s.channel k).oldBlocks } := by
  unfold State.vibrationBlock
  rw [hb]
  exact if_pos h

/-- R96, step 1: the channel after `n` lost blocks; none lost leave it as it was. -/
def Channel.missedBy (n : Nat) (x : Channel) : Channel := if 0 < n then x.missBlocks n else x

/-- R96: a block in order whose lost blocks do not fill the window. -/
theorem State.vibrationBlock_open (hb : s.sched.active = some b) {q : Nat} (hold : (s.channel k).gap q ≤ 127)
    (hheld : (s.channel k).gap q = 0 ∨
      (s.channel k).window.received + (s.channel k).window.missed + (s.channel k).gap q < b.dc.g2.vibWindow)
    (angle : Nat) (samples : List Int) :
    let t := (s.setChannel k (((s.channel k).missedBy ((s.channel k).gap q)).addBlock angle samples)).closeIfFull b k
    s.vibrationBlock k q angle samples = t.setChannel k { t.channel k with lastSeq := some q } := by
  intro t
  unfold State.vibrationBlock
  rw [hb]
  dsimp only
  rw [if_neg (Nat.not_lt_of_le hold)]
  by_cases hgap : 0 < (s.channel k).gap q
  · have hshort : ((s.channel k).missBlocks ((s.channel k).gap q)).window.received +
        ((s.channel k).missBlocks ((s.channel k).gap q)).window.missed < b.dc.g2.vibWindow := by
      rcases hheld with h | h
      · omega
      · rw [Nat.add_assoc] at h
        exact h
    rw [if_pos hgap, State.closeIfFull_open hshort, State.setChannel_same, State.setChannel_twice]
    simp only [t, Channel.missedBy, if_pos hgap]
  · rw [if_neg hgap]
    simp only [t, Channel.missedBy, if_neg hgap]

/-- R96: a block in order whose lost blocks fill the window: it closes, and the block begins a new one. -/
theorem State.vibrationBlock_lost (hb : s.sched.active = some b) {q : Nat} (hgap : 0 < (s.channel k).gap q)
    (hold : (s.channel k).gap q ≤ 127)
    (hfull : b.dc.g2.vibWindow ≤ (s.channel k).window.received + (s.channel k).window.missed + (s.channel k).gap q)
    (angle : Nat) (samples : List Int) :
    let t := (s.setChannel k ((s.channel k).missedBy ((s.channel k).gap q))).closeWindow b k
    let z := (t.setChannel k ((t.channel k).addBlock angle samples)).closeIfFull b k
    s.vibrationBlock k q angle samples = z.setChannel k { z.channel k with lastSeq := some q } := by
  intro t z
  have hreach : b.dc.g2.vibWindow ≤ ((s.channel k).missBlocks ((s.channel k).gap q)).window.received +
      ((s.channel k).missBlocks ((s.channel k).gap q)).window.missed := by
    rw [Nat.add_assoc] at hfull
    exact hfull
  unfold State.vibrationBlock
  rw [hb]
  dsimp only
  rw [if_neg (Nat.not_lt_of_le hold), if_pos hgap, State.closeIfFull_full hreach]
  simp only [z, t, Channel.missedBy, if_pos hgap]

/-- R98: a deviation in the window, its peak the greater. -/
theorem Window.add_eq (w : Window) (d : Int) (sector : Nat) : w.add d sector = { w with
    sum := w.sum + d.natAbs * d.natAbs
    n := w.n + 1
    peak := max w.peak d.natAbs
    sector := if w.peak < d.natAbs then sector else w.sector } := by
  unfold Window.add
  rcases Nat.lt_or_ge w.peak d.natAbs with h | h
  · rw [if_pos h, Nat.max_eq_right (Nat.le_of_lt h)]
  · rw [if_neg (Nat.not_lt_of_le h), Nat.max_eq_left h]

/-- R98: one sample, as the statement writes it. -/
theorem sampleFed_eq (c : Option Int × Window) (sample : Int) (sector : Nat) : sampleFed sector c sample =
    (let d := match c.1 with
      | none => 0
      | some m => clampInt (sample - Int.fdiv m 64) 32767
     let m' := match c.1 with
      | none => 64 * sample
      | some m => m + d
     (some m', { c.2 with
        sum := c.2.sum + d.natAbs * d.natAbs
        n := c.2.n + 1
        peak := max c.2.peak d.natAbs
        sector := if c.2.peak < d.natAbs then sector else c.2.sector })) := by
  obtain ⟨m, w⟩ := c
  cases m <;> exact congrArg (Prod.mk _) (Window.add_eq ..)

/-- R99: a VOID window, as the statement writes it. -/
theorem Window.isVoid_iff {w : Window} {size : Nat} : w.isVoid size = true ↔ w.n < size * 4 ∨ w.n = 0 := by
  unfold Window.isVoid
  rw [Bool.or_eq_true, decide_eq_true_eq, beq_iff_eq]

/-- R14, R20: a block of a mapped channel goes to the channel's engine. -/
theorem exec_vibrationBlock (h : s.hears f) (hc : s.classify f = some (b, e)) (hrole : e.role = .vib k) {w0 w1 : Word}
    {samples : List Word} (hp : f.payload = w0 :: w1 :: samples) : exec (.vibrationBlock f) s =
      .next ((s.forward f).vibrationBlock k (bitsOf w0 0 8) (bitsOf w1 0 12) (samples.map fun w => e.condition w.toInt)) := by
  change exec (.sampleFrame f) s = _
  rw [exec_sampleFrame h hc]
  unfold State.readSample
  simp only [hrole, hp]

/-- Settles O32: the statement's samples, close and raises are the model's, and each case is one of the lemmas above. -/
theorem vibrationBlocks : Obligations.VibrationBlocks := by
  intro s f b e k w0 w1 samples h hc hrole hp u x q gap feed block size held missed set ms void cell raw verdict ended closed seen
  have hbank : u.sched.active = some b := (congrArg Schedule.active (s.forward_sched f)).trans (State.classify_active hc)
  have huvib : u.vib = s.vib := s.forward_vib f
  have hux : u.channel k = x := by
    unfold State.channel
    rw [huvib]
  have hrow : u.row = s.sched.rowInForce := congrArg Schedule.rowInForce (s.forward_sched f)
  have hdrive : u.seq.drive = s.seq.drive := congrArg Sequencer.drive (s.forward_seq f)
  have hfeed : feed = fun c w => sampleFed (bitsOf w1 0 12 / 64) c (e.condition w.toInt) := by
    funext c w
    exact (sampleFed_eq c _ _).symm
  have hblock : ∀ y, y.addBlock (bitsOf w1 0 12) (samples.map fun w => e.condition w.toInt) = block y := fun y => by
    unfold Channel.addBlock
    rw [Channel.samples_fed, List.foldl_map, ← hfeed]
  have hvoid : ∀ y : Channel, y.window.isVoid size = true ↔ void y := fun y => Window.isVoid_iff
  have hended : ∀ y : Channel, y.conf = x.conf → y.closed b.dc.g2 cell s.seq.drive s.sched.rowInForce = ended y := fun y hy => by
    dsimp only [ended, verdict]
    rw [← hy]
    unfold Channel.closed
    by_cases hv : void y
    · exact (if_pos ((hvoid y).2 hv)).trans (if_pos hv).symm
    · exact (if_neg (mt (hvoid y).1 hv)).trans (if_neg hv).symm
  have hclosed : ∀ y : Channel, y.conf = x.conf → (u.setChannel k y).closeWindow b k = closed y := fun y hy => by
    have hset : set (ended y) u = u.setChannel k (y.closed b.dc.g2 cell s.seq.drive s.sched.rowInForce) :=
      congrArg (fun z => u.setChannel k z) (hended y hy).symm
    by_cases hv : void y
    · have hclosed : closed y = set (ended y) u := if_pos (Or.inl hv)
      rw [hclosed, hset, State.closeWindow_void ((hvoid y).2 hv)]
      unfold Channel.closed
      rw [if_pos ((hvoid y).2 hv)]
    have hfull : y.window.isVoid size = false := by rw [← Bool.not_eq_true]; exact mt (hvoid y).1 hv
    cases hrun : s.seq.drive.isRunning with
    | false =>
      have hclosed : closed y = set (ended y) u := if_pos (Or.inr hrun)
      rw [hclosed, hset, State.closeWindow_idle hfull (by rw [hdrive]; exact hrun)]
      unfold Channel.closed
      rw [hfull, hrun] <;> rfl
    | true =>
      have hcompared := State.closeWindow_compared (b := b) (k := k) hfull hdrive hrun hrow hy
      dsimp only at hcompared
      rw [State.reformCeiling_changed] at hcompared
      have hended' : ended y = { y.closedFull (raw y) with conf := (verdict y).1 } := (if_neg hv).trans (if_pos hrun)
      have hclosed : closed y = _ := if_neg (show ¬ (void y ∨ s.seq.drive.isRunning = false) by simp [hv, hrun])
      rw [hclosed, hcompared]
      dsimp only [set]
      rw [hended']
      rfl
  have hchannels : ∀ y : Channel, y.conf = x.conf → (closed y).vib.channels = s.vib.channels.set k (ended y) := fun y hy => by
    rw [← hclosed y hy, State.closeWindow_channels b k y hdrive hrow, huvib, hended y hy]
  have hchannel : ∀ y : Channel, y.conf = x.conf → (closed y).channel k = ended y := fun y hy => by
    unfold State.channel
    rw [hchannels y hy]
    exact Vector.getElem_set_self _
  have hintake : ∀ y : Channel, y.conf = x.conf → (closed y).intake = s.intake := fun y hy => by
    rw [← hclosed y hy, State.closeWindow_intake]
    exact s.forward_intake f
  have hgap : (u.channel k).gap q = gap := by rw [hux]; rfl
  have hmissed : (u.channel k).missedBy ((u.channel k).gap q) = missed := by
    rw [hgap, hux]
    unfold Channel.missedBy
    by_cases hg : 0 < gap
    · rw [if_pos hg]
      dsimp only [missed]
      rw [if_pos hg]
      rfl
    · have hzero : gap = 0 := Nat.eq_zero_of_not_pos hg
      rw [if_neg hg]
      dsimp only [missed]
      rw [if_neg hg, hzero]
      rfl
  have hheld : (u.channel k).window.received + (u.channel k).window.missed + (u.channel k).gap q = held := by rw [hgap, hux]
  have hwindow : (block missed).window.received + (block missed).window.missed = held + 1 := by
    obtain ⟨h1, h2⟩ := missed.addBlock_window (bitsOf w1 0 12) (samples.map fun w => e.condition w.toInt)
    rw [hblock missed] at h1 h2
    rw [h1, h2]
    exact (by omega : ∀ a b c : Nat, a + 1 + (b + c) = a + b + c + 1) _ _ _
  rw [exec_vibrationBlock h hc hrole hp]
  refine ⟨fun hg => ?_, fun hg hshort => ?_, fun hg hopen hfull => ?_, fun hpos hg hfull hsize => ?_⟩
  · rw [State.vibrationBlock_old hbank (by rw [hgap]; exact hg), hux]
    rfl
  · rw [State.vibrationBlock_open hbank (by rw [hgap]; exact hg) (by rw [hgap, hux]; exact Or.inr (Nat.lt_of_succ_lt hshort)),
      hmissed, hblock, State.closeIfFull_open (by rw [hwindow]; exact hshort), State.setChannel_same, State.setChannel_twice]
    rfl
  · rw [State.vibrationBlock_open hbank (by rw [hgap]; exact hg) (by rw [hgap, hux]; exact hopen), hmissed, hblock,
      State.closeIfFull_full (by rw [hwindow]; exact hfull), hclosed (block missed) rfl, hchannel (block missed) rfl]
    refine ⟨_, rfl, rfl, hintake (block missed) rfl, ?_⟩
    rw [show State.setChannel k _ (closed (block missed)) = set (seen (ended (block missed))) (closed (block missed)) from rfl]
    dsimp only [set]
    rw [hchannels (block missed) rfl, Vector.set_set]
  · have hopened : (block (ended missed)).window.received + (block (ended missed)).window.missed < size := by
      obtain ⟨h1, h2⟩ := (ended missed).addBlock_window (bitsOf w1 0 12) (samples.map fun w => e.condition w.toInt)
      rw [hblock (ended missed)] at h1 h2
      rw [h1, h2, ← hended missed rfl, Channel.closed_window]
      exact hsize
    rw [State.vibrationBlock_lost hbank (by rw [hgap]; exact hpos) (by rw [hgap]; exact hg) (by rw [hheld]; exact hfull), hmissed,
      hclosed missed rfl, hchannel missed rfl, hblock, State.closeIfFull_open hopened, State.setChannel_same, State.setChannel_twice]
    refine ⟨_, rfl, rfl, hintake missed rfl, ?_⟩
    rw [show State.setChannel k _ (closed missed) = set (seen (block (ended missed))) (closed missed) from rfl]
    dsimp only [set]
    rw [hchannels missed rfl, Vector.set_set]

end Sys2Proof.Machine
end

section
/-! PROOF. Describe, Read Status, Poll Attention and Clear Alarms (O50). -/

namespace Sys2Proof.Machine

variable {s t : State} {a : Asker} {tag : Word}

/-! ## The forms of words (R193) -/

/-- R193: a signed 32-bit value in two words, high word first. -/
theorem wordsOfInt32_eq (n : Int) : wordsOfInt32 n = wordsOfNat32 (n % 4294967296).toNat := by
  unfold wordsOfInt32
  rw [BitVec.toNat_ofInt]
  rfl

theorem wordOfNat_managerCode (m : Manager) : wordOfNat (managerCode m) = wordOfBool (m = .serviceStation) := by
  cases m <;> rfl

theorem wordOfNat_levelCode (l : Level) : wordOfNat l.code = wordOfBool (l = .commission) := by cases l <;> rfl

/-- R193: the dirty set, bit t for table code t. -/
theorem DirtySet.word_eq (d : DirtySet) : d.word = BitVec.ofNat 16 ((if d.speedSchedule then 1 else 0) +
    (if d.vibThresholds then 2 else 0) + (if d.slotMap then 4 else 0) + (if d.driveConstants then 8 else 0)) := by
  unfold DirtySet.word
  simp only [bitAt_eq]
  rfl

/-- R193: the attention set, bit c-1 for attention code c. -/
theorem Reporter.attentionWord_eq (r : Reporter) : r.attentionWord =
    BitVec.ofNat 16 (((List.finRange 15).map fun k => if r.attention[k] then 2 ^ k.val else 0).sum) := by
  have hindex : Attention.all.map Attention.index = List.finRange 15 := by decide
  unfold Reporter.attentionWord
  rw [← hindex, List.map_map]
  simp only [bitAt_eq]
  rfl

/-- R193: the readout of page 11, by the words `g` of one that is not IDLE. -/
theorem Readout.words_eq (x : Readout) (g : Word → ReadoutData → List Word) (hg : ∀ code y, g code y = code :: y.words) :
    x.words = match x with
      | .idle => [0, 0, 0, 0, 0, 0, 0]
      | .sending y => g 1 y
      | .closing y => g 2 y := by
  cases x with
  | idle => rfl
  | sending y => exact (hg 1 y).symm
  | closing y => exact (hg 2 y).symm

/-- R193: the record slots of page 11, slot 0 first. -/
theorem slots_flatMap (v : Vector RecordSlot 8) (g : RecordSlot → List Word) :
    v.toList.flatMap g = (List.finRange 8).flatMap fun k => g v[k] := by
  have hlist : v.toList = (List.finRange 8).map fun k => v[k] := by
    apply List.ext_getElem <;> simp
  rw [hlist, List.flatMap_map]

/-! ## The highest pending attention (R183) -/

/-- R183: the highest of the kinds `done`, which are in default order. -/
structure HighestOf (s : State) (done : List Attention) (best : Option Attention) : Prop where
  none : best = none → ∀ j ∈ done, s.rpt.attention[j.index] = false
  some : ∀ k, best = some k → k ∈ done ∧ s.rpt.attention[k.index] = true ∧
    ∀ j ∈ done, s.rpt.attention[j.index] = true → s.priorityOf j ≤ s.priorityOf k ∧
      (s.priorityOf j = s.priorityOf k → k.index ≤ j.index)

/-- R183: the choice takes one kind more, which no kind before it follows. -/
theorem HighestOf.betterKind {done : List Attention} {best : Option Attention} (h : HighestOf s done best) {k : Attention}
    (horder : ∀ j ∈ done, j.index ≤ k.index) : HighestOf s (done ++ [k]) (s.betterKind best k) := by
  unfold State.betterKind
  by_cases hk : s.rpt.attention[k.index] = true
  · rw [if_pos hk]
    cases best with
    | none =>
      refine ⟨nofun, fun x hx => ?_⟩
      obtain rfl : k = x := Option.some.inj hx
      refine ⟨by simp, hk, fun j hj hpending => ?_⟩
      rcases List.mem_append.1 hj with hj | hj
      · exact absurd hpending (by rw [h.none rfl j hj]; exact nofun)
      · obtain rfl := List.mem_singleton.1 hj
        exact ⟨Nat.le_refl _, fun _ => Fin.le_refl _⟩
    | some b =>
      obtain ⟨hmem, hb, hbest⟩ := h.some b rfl
      dsimp only
      by_cases hlt : s.priorityOf b < s.priorityOf k
      · rw [if_pos hlt]
        refine ⟨nofun, fun x hx => ?_⟩
        obtain rfl : k = x := Option.some.inj hx
        refine ⟨by simp, hk, fun j hj hpending => ?_⟩
        rcases List.mem_append.1 hj with hj | hj
        · have hle := (hbest j hj hpending).1
          exact ⟨by omega, fun _ => by omega⟩
        · obtain rfl := List.mem_singleton.1 hj
          exact ⟨Nat.le_refl _, fun _ => Fin.le_refl _⟩
      · rw [if_neg hlt]
        refine ⟨nofun, fun x hx => ?_⟩
        obtain rfl : b = x := Option.some.inj hx
        refine ⟨List.mem_append_left _ hmem, hb, fun j hj hpending => ?_⟩
        rcases List.mem_append.1 hj with hj | hj
        · exact hbest j hj hpending
        · obtain rfl := List.mem_singleton.1 hj
          exact ⟨by omega, fun _ => horder b hmem⟩
  · rw [if_neg hk]
    refine ⟨fun hnone j hj => ?_, fun x hx => ?_⟩
    · rcases List.mem_append.1 hj with hj | hj
      · exact h.none hnone j hj
      · obtain rfl := List.mem_singleton.1 hj
        exact Bool.not_eq_true _ ▸ hk
    · obtain ⟨hmem, hb, hbest⟩ := h.some x hx
      refine ⟨List.mem_append_left _ hmem, hb, fun j hj hpending => ?_⟩
      rcases List.mem_append.1 hj with hj | hj
      · exact hbest j hj hpending
      · obtain rfl := List.mem_singleton.1 hj
        exact absurd hpending hk

theorem HighestOf.foldl (rest : List Attention) : ∀ (done : List Attention) (best : Option Attention),
    (done ++ rest).Pairwise (fun j k => j.index ≤ k.index) → HighestOf s done best →
    HighestOf s (done ++ rest) (rest.foldl s.betterKind best) := by
  induction rest with
  | nil =>
    intro done best _ h
    rw [List.append_nil]
    exact h
  | cons k rest ih =>
    intro done best horder h
    have hbefore : ∀ j ∈ done, j.index ≤ k.index := fun j hj =>
      (List.pairwise_append.1 horder).2.2 j hj k List.mem_cons_self
    have hnext := ih (done ++ [k]) (s.betterKind best k) (by rw [List.append_assoc]; exact horder) (h.betterKind hbefore)
    rw [List.append_assoc] at hnext
    exact hnext

/-- R183: the highest pending attention is the first of greatest priority of those pending. -/
theorem State.highestPending_highest (s : State) : HighestOf s Attention.all s.highestPending :=
  HighestOf.foldl Attention.all [] none (by decide) ⟨fun _ => nofun, nofun⟩

theorem Attention.mem_all (k : Attention) : k ∈ Attention.all := by cases k <;> decide

/-- R183: each of the fifteen flags is that of a kind. -/
theorem Attention.index_surjective : ∀ i : Fin 15, ∃ k : Attention, k.index = i := by
  have h : ∀ i : Fin 15, ∃ k ∈ Attention.all, k.index = i := by decide
  exact fun i => (h i).imp fun _ hk => hk.2

theorem State.highestPending_none : s.highestPending = none ↔ ∀ i : Fin 15, s.rpt.attention[i] = false := by
  refine ⟨fun h i => ?_, fun h => ?_⟩
  · obtain ⟨k, rfl⟩ := Attention.index_surjective i
    exact s.highestPending_highest.none h k k.mem_all
  · cases hk : s.highestPending with
    | none => rfl
    | some k =>
      obtain ⟨-, hpending, -⟩ := s.highestPending_highest.some k hk
      exact absurd hpending (by rw [h k.index]; exact nofun)

/-- R107: both ceilings stand at 12288 with no channel in ALARM. -/
theorem State.reformCeilings_quiet (h : ∀ k : Fin 4, s.vib.channels[k].conf.state ≠ .alarm) :
    s.reformCeilings = { s with vib := { s.vib with ceiling := ⟨12288, 12288⟩ } } := by
  have hquiet : ∀ (b : Bank) (m : Motor), ceilingOf b s.vib.channels m = 12288 := fun b m => by
    rw [ceilingOf_eq]
    exact if_neg fun ⟨k, _, hk⟩ => h k hk
  unfold State.reformCeilings
  cases hb : s.sched.active with
  | none => rfl
  | some b =>
    dsimp only
    rw [hquiet b .a, hquiet b .b]

/-! ## The reports -/

/-- Settles O50: the pages word by word, the attention by the choice above. -/
theorem reportsAnswered : Obligations.ReportsAnswered := by
  intro s a tag page h flag one sgn two sgn2 opt places up t i c p l q d status arm previous page0 page1 page2 page3 page4 vibPage
    page9 page10 readout page11 page12 pages
  have hopt : opt = wordsOfOption := by
    funext size x
    cases x <;> rfl
  have hsgn2 : sgn2 = wordsOfInt32 := by
    funext n
    exact (wordsOfInt32_eq n).symm
  have hplaces : ∀ n x size, places n x size = listWords n size x := fun _ _ _ => rfl
  have h0 : page0 = t.page0 := by
    dsimp only [page0]
    rw [hopt]
    rfl
  have h1 : page1 = t.page1 := by
    dsimp only [page1]
    rw [hopt]
    rfl
  have h2 : page2 = t.page2 := by
    dsimp only [page2]
    rw [hopt]
    unfold State.page2
    dsimp only
    rw [DirtySet.word_eq]
    simp only [wordOfNat_managerCode]
    rfl
  have h3 : page3 = t.page3 := by
    dsimp only [page3]
    rw [hopt, hsgn2, hplaces]
    unfold State.page3 Splitter.words Limiter.words perMotorWords
    simp only [List.append_assoc]
    rfl
  have h4 : page4 = t.page4 := by
    dsimp only [page4]
    rw [hsgn2]
    rfl
  have h5 : ∀ k, vibPage k = t.vibPage k := fun k => by
    dsimp only [vibPage]
    rw [hopt, hsgn2]
    unfold State.vibPage Channel.words
    simp only [List.append_assoc]
    rfl
  have h9 : page9 = t.page9 := by
    dsimp only [page9]
    rw [hopt]
    rfl
  have h10 : page10 = t.page10 := by
    dsimp only [page10]
    rw [hopt, hplaces]
    rfl
  have hreadout : ∀ code x, readout code x = code :: ReadoutData.words x := fun code x => by
    unfold ReadoutData.words
    rw [wordOfNat_managerCode]
    rfl
  have h11 : page11 = t.page11 := by
    dsimp only [page11]
    rw [hopt]
    unfold State.page11
    dsimp only
    rw [slots_flatMap, Readout.words_eq _ readout hreadout]
    rfl
  have h12 : page12 = t.page12 := by
    dsimp only [page12]
    unfold State.page12
    rw [Reporter.attentionWord_eq]
    rfl
  have hpages : ∀ n, pages[n]? = t.page n := fun n =>
    match n with
    | 0 => congrArg some h0
    | 1 => congrArg some h1
    | 2 => congrArg some h2
    | 3 => congrArg some h3
    | 4 => congrArg some h4
    | 5 => congrArg some (h5 0)
    | 6 => congrArg some (h5 1)
    | 7 => congrArg some (h5 2)
    | 8 => congrArg some (h5 3)
    | 9 => congrArg some h9
    | 10 => congrArg some h10
    | 11 => congrArg some h11
    | 12 => congrArg some h12
    | _ + 13 => rfl
  refine ⟨?_, fun hpage => ?_, fun ws hws => ?_, State.highestPending_none, fun hnone => ?_, fun k hk => ?_, fun _ => rfl, ?_⟩
  · refine exec_request_answered rfl rfl (by decide) h s ?_ rfl
    unfold requestDescribe
    rw [wordOfNat_managerCode, wordOfNat_levelCode]
    rfl
  · refine exec_request_refused rfl rfl (by simp) h ?_
    have hout : t.page page.toNat = none := by rw [← hpages]; exact List.getElem?_eq_none hpage
    unfold requestReadStatus
    rw [hout] <;> rfl
  · refine exec_request_answered rfl rfl (by simp) h s ?_ rfl
    have hin : t.page page.toNat = some ws := by rw [← hpages]; exact hws
    unfold requestReadStatus
    rw [hin]
    rfl
  · refine exec_request_answered rfl rfl (by decide) h s ?_ rfl
    unfold requestPoll
    rw [show (s.taking a tag).highestPending = none from hnone]
    rfl
  · obtain ⟨-, hpending, hbest⟩ := s.highestPending_highest.some k hk
    refine ⟨hpending, fun j => hbest j j.mem_all, ?_⟩
    refine exec_request_answered rfl rfl (by decide) h { s with rpt := { s.rpt with attention := s.rpt.attention.set k.index false } }
      ?_ rfl
    unfold requestPoll
    rw [show (s.taking a tag).highestPending = some k from hk]
    rfl
  · refine exec_request_answered rfl rfl (by decide) h _ ?_ rfl
    unfold requestClearAlarms
    rw [State.reformCeilings_quiet fun k => by rw [State.mapChannels_channel]; exact nofun]
    rfl

end Sys2Proof.Machine
end

section
/-! PROOF. Activate (O29): the validation as the first check that fails, and the swap in BLOCKED. -/

namespace Sys2Proof.Machine

variable {s t : State} {a : Asker} {tag : Word} {b : Bank} {own : Addr}

/-! ## The first check that fails (R31) -/

/-- R31: the failure that the first check that does not hold reports. -/
def firstFailure (checks : List (Bool × Failure)) : Option Failure := (checks.find? fun c => c.1 = false).map (·.2)

theorem firstFailure_append (l r : List (Bool × Failure)) : firstFailure (l ++ r) = (firstFailure l).or (firstFailure r) := by
  unfold firstFailure
  rw [List.find?_append, Option.map_or]

theorem firstFailure_cons (p : Bool) (x : Failure) (l : List (Bool × Failure)) :
    firstFailure ((p, x) :: l) = if p then firstFailure l else some x := by
  cases p <;> rfl

/-- A row of checks, one for each member of a list. -/
theorem firstFailure_map {α : Type} (l : List α) {p ok : α → Bool} (h : ∀ x, p x = ok x) (g : α → Failure) :
    firstFailure (l.map fun x => (p x, g x)) = (l.find? fun x => !ok x).map g := by
  induction l with
  | nil => rfl
  | cons x l ih =>
    rw [List.map_cons, firstFailure_cons, ih, h, List.find?_cons]
    cases ok x <;> rfl

theorem firstFailure_flatMap {α : Type} (l : List α) {checks : α → List (Bool × Failure)} {g : α → Option Failure}
    (h : ∀ x, firstFailure (checks x) = g x) : firstFailure (l.flatMap checks) = l.findSome? g := by
  induction l with
  | nil => rfl
  | cons x l ih =>
    rw [List.flatMap_cons, firstFailure_append, ih, h, List.findSome?_cons]
    cases g x <;> rfl

/-! ## The five orders of checks (R31, R32) -/

/-- R31, order 1. -/
theorem DriveConstants.failure_eq (d : DriveConstants) {p0 p1 p2 p3 : Bool}
    (h0 : p0 = (d.g0.inRange && decide (d.g0.imax < d.g0.iTrip)))
    (h1 : p1 = (d.g1.inRange && decide (d.g1.standstillSpeed < d.g1.movingSpeed))) (h2 : p2 = d.g2.inRange)
    (h3 : p3 = (d.g3.inRange && decide (d.g3.preDepth + d.g3.postDepth ≤ 512))) :
    firstFailure [(p0, ⟨3, 0, 0⟩), (p1, ⟨3, 1, 0⟩), (p2, ⟨3, 2, 0⟩), (p3, ⟨3, 3, 0⟩)] = d.failure := by
  have hnot : ∀ (x : Bool) (m n : Nat), (!x || decide (n ≤ m)) = !(x && decide (m < n)) := fun x m n => by
    rw [Bool.not_and, ← decide_not, decide_eq_decide.2 Nat.not_lt]
  have hover : ∀ (x : Bool) (m n : Nat), (!x || decide (m < n)) = !(x && decide (n ≤ m)) := fun x m n => by
    rw [Bool.not_and, ← decide_not, decide_eq_decide.2 Nat.not_le]
  unfold DriveConstants.failure
  rw [hnot, hnot, hover, ← h0, ← h1, ← h2, ← h3]
  cases p0 <;> cases p1 <;> cases p2 <;> cases p3 <;> rfl

theorem Group0.checked (g : Group0) : (g.inRange && decide (g.imax < g.iTrip)) = decide (
    (256 ≤ g.vlim ∧ g.vlim ≤ 8192) ∧ (256 ≤ g.imax ∧ g.imax ≤ 12288) ∧ (257 ≤ g.iTrip ∧ g.iTrip ≤ 16384) ∧
    (1 ≤ g.satLimit ∧ g.satLimit ≤ 1000) ∧ g.ks ≤ 255 ∧ g.trimMax ≤ 2048 ∧ g.contactBias ≤ 1024 ∧ g.imbalanceLimit ≤ 8192 ∧
    (1 ≤ g.imbalanceCycles ∧ g.imbalanceCycles ≤ 10000) ∧ (1 ≤ g.shockStep ∧ g.shockStep ≤ 8192) ∧ g.shockClamp ≤ 12288 ∧
    (1 ≤ g.shockHold ∧ g.shockHold ≤ 10000) ∧ (1 ≤ g.shockWindow ∧ g.shockWindow ≤ 65535) ∧
    (1 ≤ g.shockTripCount ∧ g.shockTripCount ≤ 8) ∧ g.breakawayLimit ≤ 12288 ∧
    (1 ≤ g.breakawayCycles ∧ g.breakawayCycles ≤ 65535) ∧ (1 ≤ g.overspeed ∧ g.overspeed ≤ 32767) ∧ g.imax < g.iTrip) := by
  rw [Bool.eq_iff_iff, decide_eq_true_eq]
  simp only [Group0.inRange, Machine.inRange, Bool.and_eq_true, decide_eq_true_eq, and_assoc]

theorem Group1.checked (h : Group1) : (h.inRange && decide (h.standstillSpeed < h.movingSpeed)) = decide (
    (1 ≤ h.rowWidth ∧ h.rowWidth ≤ 4095) ∧ h.standstillSpeed ≤ 4095 ∧ (1 ≤ h.movingSpeed ∧ h.movingSpeed ≤ 8191) ∧
    (1 ≤ h.stopConfirm ∧ h.stopConfirm ≤ 10000) ∧ (20 ≤ h.deadline ∧ h.deadline ≤ 4000) ∧
    (1 ≤ h.markTimeout ∧ h.markTimeout ≤ 100) ∧ (1 ≤ h.missLimit ∧ h.missLimit ≤ 255) ∧
    (1 ≤ h.refLossLimit ∧ h.refLossLimit ≤ 255) ∧ (64 ≤ h.turnAngle ∧ h.turnAngle ≤ 4096) ∧
    (60 ≤ h.turnInterval ∧ h.turnInterval ≤ 7200) ∧ (10 ≤ h.turnOverdue ∧ h.turnOverdue ≤ 3600) ∧
    (1 ≤ h.recallTimeout ∧ h.recallTimeout ≤ 600) ∧ h.standstillSpeed < h.movingSpeed) := by
  rw [Bool.eq_iff_iff, decide_eq_true_eq]
  simp only [Group1.inRange, Machine.inRange, Bool.and_eq_true, decide_eq_true_eq, and_assoc]

theorem Group2.checked (v : Group2) : v.inRange = decide (
    (16 ≤ v.vibWindow ∧ v.vibWindow ≤ 1024) ∧ (1 ≤ v.confirmWindows ∧ v.confirmWindows ≤ 16) ∧
    (1 ≤ v.releaseWindows ∧ v.releaseWindows ≤ 16) ∧ v.persistWindows ≤ 255 ∧ v.hysteresis ≤ 255 ∧ v.derateLevel ≤ 12288 ∧
    (1 ≤ v.deadWindows ∧ v.deadWindows ≤ 16) ∧ v.minDeadRow ≤ 31) := by
  rw [Bool.eq_iff_iff, decide_eq_true_eq]
  simp only [Group2.inRange, Machine.inRange, Bool.and_eq_true, decide_eq_true_eq, and_assoc]

theorem Group3.checked (r : Group3) : (r.inRange && decide (r.preDepth + r.postDepth ≤ 512)) = decide (
    r.preDepth ≤ 512 ∧ r.postDepth ≤ 512 ∧ (∀ i : Fin 15, r.priorities[i] ≤ 7) ∧ (1 ≤ r.noticeTrigger ∧ r.noticeTrigger ≤ 8) ∧
    (1 ≤ r.noticeFlush ∧ r.noticeFlush ≤ 1000) ∧ (1 ≤ r.segmentSize ∧ r.segmentSize ≤ 4) ∧ r.preDepth + r.postDepth ≤ 512) := by
  have hall : r.priorities.toList.all (· ≤ 7) = true ↔ ∀ i : Fin 15, r.priorities[i] ≤ 7 := by
    rw [List.all_eq_true]
    constructor
    · intro h i
      exact of_decide_eq_true (h _ (by simp))
    · intro h x hx
      obtain ⟨i, hi, rfl⟩ := Vector.getElem_of_mem (Vector.mem_toList_iff.1 hx)
      exact decide_eq_true (h ⟨i, hi⟩)
  rw [Bool.eq_iff_iff, decide_eq_true_eq, ← hall]
  simp only [Group3.inRange, Machine.inRange, Bool.and_eq_true, decide_eq_true_eq, and_assoc]

theorem SpeedRow.checked (x : SpeedRow) : x.inRange = decide (x.kp ≤ 4095 ∧ x.ki ≤ 4095 ∧ (1024 ≤ x.flux ∧ x.flux ≤ 4096) ∧
    x.fieldRef ≤ 4096 ∧ x.lmot ≤ 12288 ∧ x.lgen ≤ 12288) := by
  rw [Bool.eq_iff_iff, decide_eq_true_eq]
  simp only [SpeedRow.inRange, Machine.inRange, Bool.and_eq_true, decide_eq_true_eq, and_assoc]

theorem VibCell.checked (x : VibCell) : x.ok = decide (x.alarmHi < 4294967296 ∧ x.deadLo < x.warnHi ∧ x.warnHi ≤ x.alarmHi) := by
  rw [Bool.eq_iff_iff, decide_eq_true_eq]
  simp only [VibCell.ok, VibCell.inRange, Bool.and_eq_true, decide_eq_true_eq]
  omega

/-- R32: the source addresses allowed for a role, with the range of an entry's source. -/
theorem sourceAllowed_iff {r : Role} {src : Addr} : src ≠ 63 ∧ r.sourceAllowed own src = true ↔
    src ≠ 63 ∧ if r = .ref then src = 0 else src ≠ 0 ∧ src ≠ own := by
  refine and_congr_right fun h => ?_
  by_cases hr : r = .ref
  · rw [if_pos hr, hr]
    exact beq_iff_eq
  · have hcase : r.sourceAllowed own src = (src != 0 && src != 63 && src != own) := by
      cases r with
      | ref => exact absurd rfl hr
      | _ => rfl
    rw [if_neg hr, hcase]
    simpa [and_assoc] using fun _ _ => h

/-- R31, order 2: an entry against those of lower number. -/
theorem Bank.slotOk_iff (b : Bank) (own : Addr) (i : Fin 32) :
    let e := b.slots[i]
    b.slotOk own i = true ↔ e.role = .none ∨
      e.source ≠ 63 ∧ -32768 ≤ e.offset ∧ e.offset ≤ 32767 ∧ e.multiplier ≤ 65535 ∧ e.kind = e.role.kind ∧
      (if e.role = .ref then e.source = 0 else e.source ≠ 0 ∧ e.source ≠ own) ∧
      ∀ j : Fin 32, j < i → b.slots[j].role ≠ .none → b.slots[j].role ≠ e.role ∧
        ¬ (b.slots[j].source = e.source ∧ b.slots[j].kind = e.kind ∧ b.slots[j].slot = e.slot) := by
  intro e
  have hlower : ((b.slots.toList.take i.val).all fun f => f.role == .none || (!f.sameKey e && f.role != e.role)) = true ↔
      ∀ j : Fin 32, j < i → b.slots[j].role ≠ .none → b.slots[j].role ≠ e.role ∧
        ¬ (b.slots[j].source = e.source ∧ b.slots[j].kind = e.kind ∧ b.slots[j].slot = e.slot) := by
    rw [List.all_eq_true]
    constructor
    · intro h j hj hrole
      have hmem : b.slots[j] ∈ b.slots.toList.take i.val := by
        rw [List.mem_take_iff_getElem]
        exact ⟨j.val, by simp; exact hj, by simp⟩
      have hok := h _ hmem
      simp only [Bool.or_eq_true, beq_iff_eq, Bool.and_eq_true, Bool.not_eq_true', bne_iff_ne, ne_eq, hrole, false_or] at hok
      refine ⟨hok.2, fun ⟨h1, h2, h3⟩ => ?_⟩
      rw [SlotEntry.sameKey, h1, h2, h3] at hok
      simp at hok
    · intro h f hf
      rw [List.mem_take_iff_getElem] at hf
      obtain ⟨j, hj, rfl⟩ := hf
      have hlt : j < i.val := (lt_min_iff.1 hj).1
      have hat := h ⟨j, by omega⟩ hlt
      rw [show b.slots.toList[j] = b.slots[(⟨j, by omega⟩ : Fin 32)] from by simp]
      by_cases hrole : b.slots[(⟨j, by omega⟩ : Fin 32)].role = .none
      · rw [hrole]
        rfl
      · obtain ⟨hother, hkey⟩ := hat hrole
        simp only [SlotEntry.sameKey, Bool.or_eq_true, beq_iff_eq, Bool.and_eq_true, Bool.not_eq_true', bne_iff_ne, hrole, false_or]
        refine ⟨?_, hother⟩
        rw [← Bool.not_eq_true, Bool.and_eq_true, Bool.and_eq_true, beq_iff_eq, beq_iff_eq, beq_iff_eq, and_assoc]
        exact hkey
  have hsource := sourceAllowed_iff (own := own) (r := e.role) (src := e.source)
  unfold Bank.slotOk slotEntryOk
  rw [Bool.or_eq_true, beq_iff_eq]
  refine or_congr_right ?_
  rw [Bool.and_eq_true, hlower, Bool.and_eq_true, Bool.and_eq_true]
  simp only [SlotEntry.inRange, Bool.and_eq_true, decide_eq_true_eq, bne_iff_ne, beq_iff_eq]
  constructor
  · rintro ⟨⟨⟨⟨⟨⟨h63, hlo⟩, hhi⟩, hmul⟩, hkind⟩, hallowed⟩, hall⟩
    exact ⟨h63, hlo, hhi, hmul, hkind, (hsource.1 ⟨h63, hallowed⟩).2, hall⟩
  · rintro ⟨h63, hlo, hhi, hmul, hkind, hallowed, hall⟩
    exact ⟨⟨⟨⟨⟨⟨h63, hlo⟩, hhi⟩, hmul⟩, hkind⟩, (hsource.2 ⟨h63, hallowed⟩).2⟩, hall⟩

/-- R31, order 3: a role that has an entry. -/
theorem Bank.findRole_isSome (b : Bank) (r : Role) : (b.findRole r).isSome = true ↔ ∃ i : Fin 32, b.slots[i].role = r := by
  unfold Bank.findRole
  rw [List.find?_isSome]
  constructor
  · rintro ⟨e, he, hr⟩
    obtain ⟨i, hi, rfl⟩ := Vector.getElem_of_mem (Vector.mem_toList_iff.1 he)
    exact ⟨⟨i, hi⟩, beq_iff_eq.1 hr⟩
  · rintro ⟨i, hi⟩
    exact ⟨b.slots[i], by simp, beq_iff_eq.2 hi⟩

/-- R31, orders 2 and 3. -/
theorem Bank.slotFailure_eq (b : Bank) (own : Addr) {p : Fin 32 → Bool} {q : Bool} (hp : ∀ i, p i = b.slotOk own i)
    (hq : q = [Role.arm .a, .arm .b, .speed, .ref].all fun r => (b.findRole r).isSome) :
    firstFailure ((List.finRange 32).map (fun i => (p i, ⟨2, i.val, 0⟩)) ++ [(q, ⟨2, 32, 0⟩)]) = b.slotFailure own := by
  rw [firstFailure_append, firstFailure_map _ hp, hq]
  unfold Bank.slotFailure
  cases (List.finRange 32).find? fun i => !b.slotOk own i with
  | some i => rfl
  | none =>
    rw [firstFailure_cons]
    rfl

/-- R31: the failure of a bank is that of the first check that does not hold. -/
theorem Bank.failure_eq_first (b : Bank) (own : Addr) : b.failure own = firstFailure (b.checks own) := by
  unfold Bank.checks Bank.failure
  dsimp only
  rw [firstFailure_append, firstFailure_append, List.append_assoc (_ :: _), firstFailure_append, Option.or_assoc, Option.or_assoc]
  refine congrArg₂ Option.or (DriveConstants.failure_eq _ ?_ ?_ ?_ ?_).symm (congrArg₂ Option.or (Bank.slotFailure_eq b own ?_ ?_).symm
    (congrArg₂ Option.or ?_ ?_))
  · exact (Group0.checked _).symm
  · exact (Group1.checked _).symm
  · exact (Group2.checked _).symm
  · exact (Group3.checked _).symm
  · intro i
    have hkind : ∀ x : Role, x.kind = match x with
        | .speed => SlotKind.speed
        | .ref => .reference
        | .vib _ => .vibration
        | .aux => .takeover
        | .service => .command
        | _ => .armature := fun x => by cases x <;> rfl
    have hiff := b.slotOk_iff own i
    dsimp only at hiff
    rw [hkind] at hiff
    rw [Bool.eq_iff_iff, decide_eq_true_eq]
    exact hiff.symm
  · rw [Bool.eq_iff_iff, decide_eq_true_eq, List.all_eq_true]
    exact forall₂_congr fun r _ => (b.findRole_isSome r).symm
  · exact (firstFailure_map _ (fun i => (SpeedRow.checked _).symm) _).symm
  · refine (firstFailure_flatMap _ fun i => ?_).symm
    exact firstFailure_map _ (fun k => (VibCell.checked _).symm) _

/-! ## The swap in BLOCKED (R35, R36, R107, R112) -/

theorem vibKey_eq (x : Option Bank) (k : Fin 4) : vibKey x k =
    x.bind fun b => (b.slots.toList.find? fun e => e.role = .vib k).map fun e => (e.source, e.kind, e.slot) := by
  cases x <;> rfl

/-- R112: the channels after a swap. -/
theorem State.swap_channel (h : s.sched.staged = some b) (k : Fin 4) : s.swap.vib.channels[k] =
    if vibKey s.sched.active k = vibKey (some b) k then s.vib.channels[k] else s.vib.channels[k].engineReset := by
  unfold State.swap
  rw [h]
  dsimp only
  rw [State.raiseAttention_vib]
  unfold State.vibrationSwapped
  rw [State.reformCeilings_channels, State.mapChannels_channel]

/-- R107: the ceilings after a swap. -/
theorem State.swap_ceiling (h : s.sched.staged = some b) (m : Motor) :
    s.swap.vib.ceiling.get m = ceilingOf b s.vib.channels m := by
  have hchannels : ceilingOf b s.swap.vib.channels m = ceilingOf b s.vib.channels m := by
    refine ceilingOf_congr fun k _ => ?_
    rw [State.swap_channel h]
    split <;> exact Iff.rfl
  rw [← hchannels]
  unfold State.swap
  rw [h]
  dsimp only
  rw [State.raiseAttention_vib]
  unfold State.vibrationSwapped State.reformCeilings
  cases m <;> rfl

/-- R35: TABLE_ACTIVATED carries the new generation. -/
theorem State.swap_rpt (h : s.sched.staged = some b) : s.swap.rpt = (State.raiseAttention
    ⟨.tableActivated, 0, .nobody, ((s.sched.generation + 1) % 4294967296 % 65536 : Nat)⟩
    { s with sched := { s.sched with active := some b } }).rpt := by
  unfold State.swap
  rw [h]
  exact State.raiseAttention_rpt_congr _ rfl rfl rfl

/-- R173: the swap does not read the Request Handler. -/
theorem State.swap_taking (h : s.sched.staged = some b) : (s.taking a tag).swap = s.swap.taking a tag := by
  have hstaged : (s.taking a tag).sched.staged = some b := h
  unfold State.swap
  rw [h, hstaged]
  rfl

/-! ## The tests of Activate (R33) -/

/-- R33: Activate with nothing frozen or pending, from COMMISSION. -/
theorem requestActivate_of_free (hl : a.level = .commission) (hf : s.sched.frozen = false) (hp : s.sched.activation = none) :
    requestActivate a s = if s.seq.drive = .tripped then refuse .refusedState s
      else if (s.sched.dirty.slotMap ∨ s.sched.dirty.driveConstants) ∧ s.seq.drive ≠ .blocked then refuse .refusedState s
      else
        match (s.sched.staged.getD Bank.zero).failure s.rp.strap with
        | some f => (s, some (.invalidTable, [wordOfNat f.table, wordOfNat f.row, wordOfNat f.channel]))
        | none => requestActivated a s := by
  unfold requestActivate
  rw [if_neg (a.not_operate hl), if_neg (by rw [hf]; exact nofun), if_neg (by rw [hp]; exact nofun)] <;> rfl

/-- R33, R173: an activation that becomes PENDING is not answered yet. -/
theorem exec_activate_pending (h : s.takesFrom a) (ha : requestActivate a (s.taking a tag) =
    ({ s.taking a tag with sched := { s.sched with activation := some a.manager } }, none)) :
    exec (.activate a.addr tag) s = .next { s with
      sched := { s.sched with activation := some a.manager }
      rqh := s.rqh.set a.manager { s.rqh.get a.manager with holder := ⟨.waitingSwap, a.addr, tag⟩ } } := by
  have htake : s.takeRequest a 23 tag [] = State.setHolder a.manager ⟨.waitingSwap, a.addr, tag⟩
      { s.taking a tag with sched := { s.sched with activation := some a.manager } } := by
    unfold State.takeRequest
    rw [show ownerDecides a (23 : Word).toNat [] = some (requestActivate a) from rfl]
    dsimp only
    rw [show s.setHolder a.manager ⟨.answering, a.addr, tag⟩ = s.taking a tag from rfl, ha]
  rw [exec_request (src := a.addr) (ws := [23, tag]) rfl, s.commandArrives_takes h 23 tag (by decide), htake]
  unfold State.setHolder State.taking State.setHolder
  simp only [Requests.get_set, Requests.set_set]

/-- Settles O29: the tests one by one, the failure by the order of the checks, the swap by what it leaves. -/
theorem activateTaken : Obligations.ActivateTaken := by
  intro s a tag h answers key
  have hrefused : ∀ {code ws}, requestActivate a (s.taking a tag) = (s.taking a tag, some (code, ws)) → answers code ws := fun hr =>
    exec_request_refused (act := requestActivate a) rfl rfl (by decide) h hr
  refine ⟨Bank.failure_eq_first, fun hl => hrefused (if_pos hl), fun hl hf => hrefused ?_, fun hl hf hp => hrefused ?_,
    fun hl hf hp => ?_⟩
  · exact (if_neg (a.not_operate hl)).trans (if_pos hf)
  · have hpending : s.sched.activation.isSome = true := Option.isSome_iff_ne_none.2 hp
    exact (if_neg (a.not_operate hl)).trans ((if_neg (by simp [State.taking, State.setHolder, hf])).trans (if_pos hpending))
  have heq := requestActivate_of_free (a := a) (s := s.taking a tag) hl hf hp
  refine ⟨fun ht => hrefused (heq.trans (if_pos ht)), fun hdirty hb ht => hrefused (heq.trans ((if_neg ht).trans (if_pos ⟨hdirty, hb⟩))),
    fun ht hclean => ?_⟩
  have hallowed : ¬ ((s.sched.dirty.slotMap ∨ s.sched.dirty.driveConstants) ∧ s.seq.drive ≠ .blocked) := by
    rintro ⟨hdirty, hb⟩
    rcases hclean with ⟨h1, h2⟩ | hblocked
    · rw [h1, h2] at hdirty
      exact hdirty.elim nofun nofun
    · exact hb hblocked
  have htested := heq.trans ((if_neg ht).trans (if_neg hallowed))
  refine ⟨fun x hx => hrefused ?_, fun b hstaged hvalid => ?_⟩
  · rw [htested, show ((s.taking a tag).sched.staged.getD Bank.zero).failure (s.taking a tag).rp.strap = some x from hx]
  have hpassed : requestActivate a (s.taking a tag) = requestActivated a (s.taking a tag) := by
    rw [htested, show ((s.taking a tag).sched.staged.getD Bank.zero).failure (s.taking a tag).rp.strap = none from by
      rw [show (s.taking a tag).sched.staged = some b from hstaged]
      exact hvalid]
  refine ⟨fun hblocked => ?_, fun hb => exec_activate_pending h (hpassed.trans (if_neg hb))⟩
  intro generation acc swapped
  have hdone : requestActivate a (s.taking a tag) = (s.swap.taking a tag, some (.done, [])) := by
    rw [hpassed, ← State.swap_taking hstaged]
    exact if_pos hblocked
  have hswap := State.swap_eq hstaged
  have hsched : s.swap.sched = { s.sched with active := some b, dirty := ⟨false, false, false, false⟩, generation := generation } := by
    rw [hswap]
    rfl
  have hsplit : s.swap.split = { s.split with acc := acc, trim := Int.tdiv acc 256 } := by
    rw [hswap]
    rfl
  have hreg : s.swap.reg = ⟨swapped s.reg.a, swapped s.reg.b⟩ := by
    rw [hswap]
    rfl
  have hrqh : s.swap.rqh = s.rqh := by rw [hswap]
  have hrpt := State.swap_rpt hstaged
  refine ⟨s.swap, exec_request_answered (act := requestActivate a) rfl rfl (by decide) h s.swap hdone hrqh, ?_, hsched, hsplit, hreg,
    fun k => ?_, fun m => ?_, ?_, fun hroom => ?_⟩
  · rw [hsched, hsplit, hreg]
    exact hswap
  · rw [State.swap_channel hstaged, vibKey_eq, vibKey_eq]
    rfl
  · rw [State.swap_ceiling hstaged, ceilingOf_eq]
  · rw [hrpt, State.raiseAttention_attention]
  · rw [hrpt]
    exact congrArg Reporter.notices (Reporter.append_of_lt
      (r := { s.rpt with attention := s.rpt.attention.set Attention.tableActivated.index true }) hroom)

end Sys2Proof.Machine
end

section
/-! PROOF. The deadline expiry (O22): what it raises, the events it makes, and their echo. -/

namespace Sys2Proof.Machine

variable {s t u : State} {b : Bank} {m : Motor}

/-! ## What the actions of an expiry keep -/

/-- What holds of a trip declared and of an attention pending before an action holds after it. -/
structure EventKept (s t : State) : Prop where
  active : t.sched.active = s.sched.active
  tripped : s.seq.drive = .tripped → t.seq.drive = .tripped ∧ t.tru.first = s.tru.first
  attention : ∀ i : Fin 15, s.rpt.attention[i] = true → t.rpt.attention[i] = true

theorem EventKept.of_eq (hactive : t.sched.active = s.sched.active) (hseq : t.seq = s.seq) (hfirst : t.tru.first = s.tru.first)
    (hrpt : t.rpt = s.rpt) : EventKept s t :=
  ⟨hactive, fun h => ⟨hseq ▸ h, hfirst⟩, fun _ h => hrpt ▸ h⟩

theorem EventKept.refl (s : State) : EventKept s s := .of_eq rfl rfl rfl rfl

theorem EventKept.trans (h : EventKept s t) (g : EventKept t u) : EventKept s u where
  active := g.active.trans h.active
  tripped hs := by
    obtain ⟨ht, hfirst⟩ := h.tripped hs
    obtain ⟨hu, hfirst'⟩ := g.tripped ht
    exact ⟨hu, hfirst'.trans hfirst⟩
  attention i hi := g.attention i (h.attention i hi)

theorem EventKept.raiseCause (c : Cause) (who : Who) (detail : Int) (s : State) : EventKept s (s.raiseCause c who detail) where
  active := s.raiseCause_active c who detail
  tripped h := by
    obtain ⟨hseq, hfirst⟩ := State.raiseCause_in_tripped h c who detail
    exact ⟨hseq ▸ h, hfirst⟩
  attention _ h := State.raiseCause_keeps c who detail h

theorem EventKept.raiseAttention (x : Raise) (s : State) : EventKept s (s.raiseAttention x) where
  active := by rw [State.raiseAttention_sched]
  tripped h := by
    rw [State.raiseAttention_seq, State.raiseAttention_tru]
    exact ⟨h, rfl⟩
  attention _ h := State.raiseAttention_keeps x h

theorem EventKept.splitEvent (b : Bank) (s : State) : EventKept s (s.splitEvent b) := by
  have hchecked : EventKept s (s.splitChecked b) := by
    by_cases h : s.imbalanceRaised b
    · rw [State.splitChecked_raised h]
      exact .trans (t := { s with split := (s.splitChecked b).split }) (.of_eq rfl rfl rfl rfl) (.raiseCause ..)
    · rw [State.splitChecked_quiet h]
      exact .of_eq rfl rfl rfl rfl
  refine hchecked.trans ?_
  obtain ⟨-, -, hseq, htru⟩ := s.splitEvent_blocks b
  refine ⟨?_, fun h => ⟨hseq ▸ h, congrArg TripUnit.first htru⟩, fun i h => ?_⟩
  · rw [State.splitEvent_active, (s.splitChecked_keeps b).2.2]
  · rw [State.splitEvent_eq]
    exact State.raiseLimits_keeps _ _ _ _ h

theorem EventKept.referenceEvent (hb : s.sched.active = some b) : EventKept s s.referenceEvent := by
  rw [State.referenceEvent_eq hb]
  dsimp only
  split
  · exact .trans (t := { s with
      intake := { s.intake with refMade := true }
      lim := { s.lim with breakawayAtRef := s.lim.breakaway.isSome } }) (.of_eq rfl rfl rfl rfl) (.splitEvent b _)
  · exact .of_eq rfl rfl rfl rfl

theorem EventKept.regulate (b : Bank) (m : Motor) (s : State) : EventKept s (s.regulate b m) := by
  have hraised : EventKept s (if s.saturates b m then
      (s.loopClosed b m).raiseCause (.saturation m) (.motor m) (s.loopOf b m).output else s.loopClosed b m) := by
    split
    · exact .trans (t := s.loopClosed b m) (.of_eq rfl rfl rfl rfl) (.raiseCause ..)
    · exact .of_eq rfl rfl rfl rfl
  rw [State.regulate_eq]
  exact hraised.trans (.of_eq (by rw [State.eventFrame_sched]) (by rw [State.eventFrame_seq]) (by rw [State.eventFrame_tru])
    (by rw [State.eventFrame_rpt]))

theorem EventKept.testOvercurrent (b : Bank) (m : Motor) (s : State) : EventKept s (s.testOvercurrent b m) := by
  unfold State.testOvercurrent
  dsimp only
  split
  · split
    · exact .trans (t := s.overcurrentSet m (b.dc.g0.iTrip < (s.intake.arm.get m).current.natAbs)) (.of_eq rfl rfl rfl rfl)
        (.raiseCause ..)
    · exact .of_eq rfl rfl rfl rfl
  · exact .refl s

theorem EventKept.shockEvent (b : Bank) (m : Motor) (d : Int) (s : State) : EventKept s (s.shockEvent b m d) := by
  have hlisted : EventKept s ((s.shockListed b m).raiseAttention ⟨.shock, 0, .motor m, signedDetail d⟩) :=
    .trans (t := s.shockListed b m) (.of_eq rfl rfl rfl rfl) (.raiseAttention ..)
  rw [State.shockEvent_eq]
  dsimp only
  refine .trans (t := if b.dc.g0.shockTripCount ≤ (pushShock s.lim.shocks ⟨m, s.cycleTag, 0⟩).length then _ else _) ?_
    (.of_eq (by rw [State.discardWindows_sched]) (by rw [State.discardWindows_seq]) (by rw [State.discardWindows_tru])
      (by rw [State.discardWindows_rpt]))
  split
  · exact hlisted.trans (.raiseCause ..)
  · exact hlisted

theorem EventKept.measureTorque (b : Bank) (m : Motor) (flux : Nat) (s : State) : EventKept s (s.measureTorque b m flux) := by
  rw [State.measureTorque_eq]
  dsimp only
  split
  · exact (EventKept.shockEvent ..).trans (.of_eq rfl rfl rfl rfl)
  · exact .of_eq rfl rfl rfl rfl

theorem EventKept.reportRegulation (m : Motor) (s : State) : EventKept s (s.reportRegulation m) :=
  .of_eq (by rw [State.reportRegulation_sched]) (by rw [State.reportRegulation_seq]) (by rw [State.reportRegulation_tru])
    (by rw [State.reportRegulation_rpt])

theorem EventKept.regulationEvent (hb : s.sched.active = some b) (m : Motor) : EventKept s (s.regulationEvent m) := by
  cases hrun : s.seq.drive.isRunning with
  | true =>
    rw [State.regulationEvent_running hb hrun]
    exact ((EventKept.regulate b m s).trans (.testOvercurrent ..)).trans ((EventKept.measureTorque ..).trans (.reportRegulation ..))
  | false =>
    rw [State.regulationEvent_idle hb hrun]
    refine .trans (t := { s with reg := s.reg.set m (s.reg.get m).unregulated }) (.of_eq rfl rfl rfl rfl) ?_
    refine (EventKept.testOvercurrent b m _).trans (.trans ?_ (.reportRegulation ..))
    exact .of_eq rfl rfl rfl rfl

/-! ## The echo of the event that completes the pair (R185) -/

/-- R5: the arbiter starts a frame that waits in the pair, or leaves it there. -/
theorem State.arbitrate_holds {f : RawFrame} (h : f ∈ s.rp.pair) :
    s.arbitrate.rp.port = .priority f ∨ f ∈ s.arbitrate.rp.pair := by
  by_cases hport : s.rp.port = .idle
  · rw [State.arbitrate_rp_idle hport]
    cases hbuffer : s.rp.buffer with
    | cons g rest => exact .inr h
    | nil =>
      cases hpair : s.rp.pair with
      | nil =>
        rw [hpair] at h
        exact nomatch h
      | cons g rest =>
        rw [hpair] at h
        rcases List.mem_cons.1 h with rfl | hrest
        · exact .inl rfl
        · exact .inr hrest
  · rw [State.arbitrate_busy hport]
    exact .inr h

/-- R6: a frame that joins the pair leaves an idle port or waits. -/
theorem State.joinPair_holds (hs : s.forwardingOnly = false) (f : RawFrame) :
    (s.joinPair f).rp.port = .priority f ∨ f ∈ (s.joinPair f).rp.pair := by
  have hjoined : f ∈ (joinedPair f s.rp.pair).1 := by
    unfold joinedPair
    split
    next h =>
      obtain ⟨g, hg, hsame⟩ := List.any_eq_true.1 h
      exact List.mem_map.2 ⟨g, hg, if_pos hsame⟩
    · split
      · simp
      · simp
  unfold State.joinPair
  rw [if_neg (by rw [hs]; exact nofun)]
  exact State.arbitrate_holds hjoined

/-- R185, R186: what an expiry has left of the port, with the echo there once the pair of events is made. -/
structure EchoMade (s t : State) : Prop where
  active : t.sched.active = s.sched.active
  strap : t.rp.strap = s.rp.strap
  cycle : t.intake.cycle = s.intake.cycle
  echo : t.intake.regMade = ⟨true, true⟩ →
    ∃ f, (t.rp.port = .priority f ∨ f ∈ t.rp.pair) ∧ f = makeFrame 0 s.rp.strap kindEcho s.cycleTag t.echoWords

theorem EchoMade.reportRegulation (hs : s.forwardingOnly = false) (hactive : t.sched.active = s.sched.active)
    (hstrap : t.rp.strap = s.rp.strap) (hcycle : t.intake.cycle = s.intake.cycle) (m : Motor) :
    EchoMade s (t.reportRegulation m) := by
  refine ⟨?_, ?_, ?_, fun hmade => ?_⟩
  · rw [State.reportRegulation_sched]
    exact hactive
  · rw [State.reportRegulation_strap]
    exact hstrap
  · rw [State.reportRegulation_intake]
    exact hcycle
  · rw [State.reportRegulation_intake] at hmade
    rw [State.reportRegulation_eq]
    dsimp only
    rw [if_pos hmade]
    generalize hw : ({ t with intake := { t.intake with regMade := t.intake.regMade.set m true } } : State) = w
    have hforwarding : w.forwardingOnly = false := by
      rw [← hs]
      unfold State.forwardingOnly
      rw [← hstrap, ← hw]
    have hwords : ∀ f, (w.joinPair f).echoWords = w.echoWords := fun f => by
      rw [State.joinPair_eq]
      rfl
    refine ⟨_, State.joinPair_holds hforwarding _, ?_⟩
    rw [hwords, hstrap]
    unfold State.cycleTag
    rw [hcycle]

theorem EchoMade.regulationEvent (hs : s.forwardingOnly = false) (hb : s.sched.active = some b) (h : EchoMade s t) (m : Motor) :
    EchoMade s (t.regulationEvent m) := by
  have htb : t.sched.active = some b := h.active.trans hb
  cases hrun : t.seq.drive.isRunning with
  | true =>
    rw [State.regulationEvent_running htb hrun]
    refine .reportRegulation hs ?_ ?_ ?_ m
    · rw [State.measureTorque_active, State.testOvercurrent_active, State.regulate_active]
      exact h.active
    · rw [State.measureTorque_strap, State.testOvercurrent_strap, State.regulate_strap]
      exact h.strap
    · rw [State.measureTorque_intake, State.testOvercurrent_intake, State.regulate_intake]
      exact h.cycle
  | false =>
    rw [State.regulationEvent_idle htb hrun]
    refine .reportRegulation hs ?_ ?_ ?_ m
    · rw [State.forgetTorque_sched, State.testOvercurrent_active]
      exact h.active
    · rw [State.forgetTorque_rp, State.testOvercurrent_strap]
      exact h.strap
    · rw [State.forgetTorque_intake, State.testOvercurrent_intake]
      exact h.cycle

/-! ## The owed events (R17) -/

/-- R16, R17: what the events due keep, and each of them keeps. -/
theorem State.regulateDue_keeps {P : State → Prop} (hd : ∀ s, P s → P s.drawn) (hevent : ∀ m s, P s → P (s.regulationEvent m))
    (x y : Bool) (h : P s) : P (s.regulateDue x y) := by
  have hif : ∀ (due : Bool) (m : Motor) (t : State), P t → P (t.regulateIf due m) := fun due m t ht => by
    cases due with
    | true => exact hevent m t ht
    | false => exact ht
  cases x <;> cases y
  case true.true => exact inEitherOrder_keeps hd (hevent .a) (hevent .b) h
  all_goals exact hif _ _ _ (hif _ _ _ h)

theorem EventKept.regulateDue (hb : s.sched.active = some b) (x y : Bool) : EventKept s (s.regulateDue x y) :=
  State.regulateDue_keeps (P := EventKept s) (fun _ h => h.trans (.of_eq rfl rfl rfl rfl))
    (fun m _ h => h.trans (.regulationEvent (h.active.trans hb) m)) x y (.refl s)

/-- R17: the events owed at an expiry. -/
theorem EventKept.oweEvents (hb : s.sched.active = some b) : EventKept s s.oweReference.oweRegulation := by
  have howed : EventKept s s.oweReference := by
    unfold State.oweReference
    split
    · exact .refl s
    · have href := EventKept.referenceEvent hb
      exact href.trans (.regulateDue (href.active.trans hb) _ _)
  exact howed.trans (.regulateDue (howed.active.trans hb) _ _)

/-- R17, R185: the events owed at an expiry, with the pair not yet made, leave its echo. -/
theorem EchoMade.oweEvents (hs : s.forwardingOnly = false) (hb : s.sched.active = some b) (hmade : s.intake.regMade ≠ ⟨true, true⟩) :
    EchoMade s s.oweReference.oweRegulation := by
  have hdue : ∀ (t : State) (x y : Bool), EchoMade s t → EchoMade s (t.regulateDue x y) := fun t x y h =>
    State.regulateDue_keeps (P := EchoMade s) (fun _ h => ⟨h.active, h.strap, h.cycle, h.echo⟩)
      (fun m _ h => h.regulationEvent hs hb m) x y h
  refine hdue _ _ _ ?_
  unfold State.oweReference
  split
  · exact ⟨rfl, rfl, rfl, fun h => absurd h hmade⟩
  · refine hdue _ _ _ ⟨s.referenceEvent_active, s.referenceEvent_strap, ?_, fun h => ?_⟩
    · rw [State.referenceEvent_intake hb]
    · rw [State.referenceEvent_intake hb] at h
      exact absurd h hmade

end Sys2Proof.Machine
end

section
/-! PROOF. The deadline expiry (O22): the losses raised, and the expiry as a whole. -/

namespace Sys2Proof.Machine

variable {s t u : State} {b : Bank} {c c' : Cause}

/-! ## The losses raised (R18) -/

/-- R146: a later cause leaves the standing flags. -/
theorem State.laterCause_standing (r : CauseRecord) (s : State) : (s.laterCause r).tru.standing = s.tru.standing := by
  have hheader : ∀ (g : Header → Header) (x : State), (x.updateTripHeader g).tru.standing = x.tru.standing := fun g x =>
    congrArg TripUnit.standing (State.updateTripHeader_tru ..)
  unfold State.laterCause
  dsimp only
  split
  · exact congrArg TripUnit.standing (s.cycleLostTruncates_tru _)
  · split
    · split
      · refine (inEitherOrder_field (fun t => t.tru.standing) (fun _ => rfl) (fun t => ?_)
          (fun t => congrArg TripUnit.standing t.truncateCapture_tru) _).trans ((hheader _ _).trans rfl)
        rw [State.raiseAttention_tru]
      · rw [State.raiseAttention_tru]
        exact (hheader _ _).trans rfl
    · exact (congrArg TripUnit.standing (State.cycleLostTruncates_tru _ _)).trans ((hheader _ _).trans rfl)

/-- R141: a raise leaves the standing flag of another cause. -/
theorem State.raiseCause_standing (h : ∀ f : StandingFlags, (f.raised c).get c' = f.get c') (who : Who) (detail : Int) (s : State) :
    (s.raiseCause c who detail).tru.standing.get c' = s.tru.standing.get c' := by
  rcases s.raiseCause_cases c who detail with e | ⟨-, -, e⟩ | ⟨-, -, e⟩ | ⟨-, -, -, e⟩ <;> rw [e]
  · exact h _
  · rw [State.reportCause_tru]
    exact h _
  · rw [State.laterCause_standing]
    exact h _
  · obtain ⟨-, htru, -⟩ := State.declareTrip_spec (s := s.standingRaised c) ⟨c, who, detail⟩
    exact (congrArg (fun x : TripUnit => x.standing.get c') htru).trans ((h _).trans (h _))

/-- R142: the cause is reported and declares nothing where it is raised. -/
def State.reports (s : State) (c : Cause) : Prop :=
  (s.classOf c = .warn ∨ s.classOf c = .trip ∧ s.seq.drive = .blocked) ∧ s.tru.standing.get c = false

theorem State.raiseCause_reports (h : s.reports c) (who : Who) (detail : Int) :
    (s.raiseCause c who detail).rpt.attention[c.reportKind.index] = true := by
  obtain ⟨hclass | ⟨hclass, hblocked⟩, hstands⟩ := h
  · rw [State.raiseCause_warns hclass, hstands, if_neg nofun]
    exact State.raiseAttention_set _ _
  · rw [State.raiseCause_blocked hclass hblocked, hstands, if_neg nofun]
    exact State.raiseAttention_set _ _

theorem State.classOf_congr (h : t.sched.active = s.sched.active) (c : Cause) : t.classOf c = s.classOf c := by
  unfold State.classOf
  rw [h]

/-- R142: a raise leaves what another cause would be reported by. -/
theorem State.reports_after (h : ∀ f : StandingFlags, (f.raised c).get c' = f.get c') (hr : s.reports c') (who : Who) (detail : Int) :
    (s.raiseCause c who detail).reports c' := by
  obtain ⟨hclass, hstands⟩ := hr
  refine ⟨?_, (State.raiseCause_standing h who detail s).trans hstands⟩
  rw [State.classOf_congr (s.raiseCause_active c who detail)]
  refine hclass.imp id fun ⟨htrip, hblocked⟩ => ⟨htrip, ?_⟩
  rw [(State.raiseCause_in_blocked hblocked c who detail).1]
  exact hblocked

/-- R18, R142: two losses raised one after the other. -/
theorem State.raise_two (h : ∀ f : StandingFlags, (f.raised c).get c' = f.get c') (d d' : Int) (s : State) :
    let t := (s.raiseCause c .nobody d).raiseCause c' .nobody d'
    let declared := fun r => t.seq.drive = .tripped ∧ t.tru.first = some r
    (s.seq.drive ≠ .blocked → s.seq.drive ≠ .tripped →
      (s.classOf c = .trip → declared ⟨c, .nobody, d⟩) ∧
      (s.classOf c ≠ .trip → s.classOf c' = .trip → declared ⟨c', .nobody, d'⟩)) ∧
    (s.reports c → t.rpt.attention[c.reportKind.index] = true) ∧ (s.reports c' → t.rpt.attention[c'.reportKind.index] = true) := by
  intro t declared
  have h1 := RaisedOrKept.raiseCause c .nobody d s
  have h2 := RaisedOrKept.raiseCause c' .nobody d' (s.raiseCause c .nobody d)
  rw [State.classOf_congr (s.raiseCause_active c .nobody d)] at h2
  refine ⟨fun hb ht => ⟨fun hc => ?_, fun hc hc' => ?_⟩, fun hr => ?_, fun hr => ?_⟩
  · obtain ⟨hd1, hf1⟩ := h1.declared hc hb ht
    obtain ⟨hd2, hf2⟩ := h2.kept (Or.inr (Or.inr hd1))
    exact ⟨hd2 ▸ hd1, hf2.trans hf1⟩
  · obtain ⟨hd1, -⟩ := h1.kept (Or.inl hc)
    exact h2.declared hc' (hd1 ▸ hb) (hd1 ▸ ht)
  · exact State.raiseCause_keeps _ _ _ (State.raiseCause_reports hr _ _)
  · exact State.raiseCause_reports (State.reports_after h hr _ _) _ _

theorem State.raiseLosses_sample (hsample : s.intake.sampleLossStands = true) (href : s.intake.ref.status.lossStands = false) :
    s.raiseLosses = s.raiseCause .sampleLoss .nobody s.intake.largestMiss := by
  unfold State.raiseLosses
  rw [hsample, href]
  rfl

theorem State.raiseLosses_reference (hsample : s.intake.sampleLossStands = false) (href : s.intake.ref.status.lossStands = true) :
    s.raiseLosses = s.raiseCause .referenceLoss .nobody s.intake.ref.status.miss := by
  unfold State.raiseLosses
  rw [hsample, href]
  rfl

/-- R18: the rule gives the two losses no order between them. -/
theorem State.raiseLosses_both (hsample : s.intake.sampleLossStands = true) (href : s.intake.ref.status.lossStands = true) :
    s.raiseLosses = (s.drawn.raiseCause .sampleLoss .nobody s.intake.largestMiss).raiseCause .referenceLoss .nobody
      s.intake.ref.status.miss ∨
    s.raiseLosses = (s.drawn.raiseCause .referenceLoss .nobody s.intake.ref.status.miss).raiseCause .sampleLoss .nobody
      s.intake.largestMiss := by
  have hboth : s.raiseLosses = inEitherOrder State.raiseSampleLoss State.raiseReferenceLoss s := by
    unfold State.raiseLosses
    rw [hsample, href]
  rw [hboth]
  refine (inEitherOrder_cases _ _ s).imp (fun e => e.trans ?_) (fun e => e.trans ?_)
  · unfold State.raiseReferenceLoss State.raiseSampleLoss
    rw [State.raiseCause_intake]
    rfl
  · unfold State.raiseReferenceLoss State.raiseSampleLoss
    rw [State.raiseCause_intake]
    rfl

/-- R18: what the losses raised at an expiry leave of the trip and of LINK_QUALITY. -/
theorem State.raiseLosses_spec (s : State) :
    let t := s.raiseLosses
    let sample := s.intake.sampleLossStands = true
    let ref := s.intake.ref.status.lossStands = true
    let refTrips := ref ∧ s.classOf .referenceLoss = .trip
    let trips := s.seq.drive ≠ .blocked ∧ s.seq.drive ≠ .tripped
    let sampleRecord : CauseRecord := ⟨.sampleLoss, .nobody, s.intake.largestMiss⟩
    let refRecord : CauseRecord := ⟨.referenceLoss, .nobody, s.intake.ref.status.miss⟩
    (trips → sample → ¬ refTrips → t.seq.drive = .tripped ∧ t.tru.first = some sampleRecord) ∧
    (trips → ¬ sample → refTrips → t.seq.drive = .tripped ∧ t.tru.first = some refRecord) ∧
    (trips → sample → refTrips → t.seq.drive = .tripped ∧ (t.tru.first = some sampleRecord ∨ t.tru.first = some refRecord)) ∧
    (sample → s.reports .sampleLoss → t.rpt.attention[Attention.linkQuality.index] = true) ∧
    (ref → s.reports .referenceLoss → t.rpt.attention[Attention.linkQuality.index] = true) := by
  intro t sample ref refTrips trips sampleRecord refRecord
  have hclass : s.classOf .sampleLoss = .trip := rfl
  have hone : ∀ (c : Cause) (d : Int), s.classOf c = .trip → trips →
      (s.raiseCause c .nobody d).seq.drive = .tripped ∧ (s.raiseCause c .nobody d).tru.first = some ⟨c, .nobody, d⟩ :=
    fun c d hc htrips => (RaisedOrKept.raiseCause c .nobody d s).declared hc htrips.1 htrips.2
  cases hsample : s.intake.sampleLossStands with
  | false =>
    have hno : ¬ sample := fun h => nomatch h.symm.trans hsample
    cases href : s.intake.ref.status.lossStands with
    | false =>
      have hnoref : ¬ ref := fun h => nomatch h.symm.trans href
      exact ⟨fun _ h => absurd h hno, fun _ _ h => absurd h.1 hnoref, fun _ h => absurd h hno, fun h => absurd h hno,
        fun h => absurd h hnoref⟩
    | true =>
      have ht : t = s.raiseCause .referenceLoss .nobody s.intake.ref.status.miss := State.raiseLosses_reference hsample href
      rw [ht]
      exact ⟨fun _ h => absurd h hno, fun htrips _ h => hone _ _ h.2 htrips, fun _ h => absurd h hno, fun h => absurd h hno,
        fun _ hr => State.raiseCause_reports hr _ _⟩
  | true =>
    cases href : s.intake.ref.status.lossStands with
    | false =>
      have hnoref : ¬ ref := fun h => nomatch h.symm.trans href
      have ht : t = s.raiseCause .sampleLoss .nobody s.intake.largestMiss := State.raiseLosses_sample hsample href
      rw [ht]
      exact ⟨fun htrips _ _ => hone _ _ hclass htrips, fun _ h => absurd hsample h, fun _ _ h => absurd h.1 hnoref,
        fun _ hr => State.raiseCause_reports hr _ _, fun h => absurd h hnoref⟩
    | true =>
      rcases State.raiseLosses_both hsample href with ht | ht
      · obtain ⟨hdeclared, hr1, hr2⟩ := State.raise_two (c := .sampleLoss) (c' := .referenceLoss) (fun _ => rfl)
          s.intake.largestMiss s.intake.ref.status.miss s.drawn
        rw [← ht] at hdeclared hr1 hr2
        exact ⟨fun htrips _ _ => (hdeclared htrips.1 htrips.2).1 hclass, fun _ h => absurd hsample h,
          fun htrips _ _ => (hdeclared htrips.1 htrips.2).1 hclass |>.imp id Or.inl, fun _ hr => hr1 hr, fun _ hr => hr2 hr⟩
      · obtain ⟨hdeclared, hr1, hr2⟩ := State.raise_two (c := .referenceLoss) (c' := .sampleLoss) (fun _ => rfl)
          s.intake.ref.status.miss s.intake.largestMiss s.drawn
        rw [← ht] at hdeclared hr1 hr2
        exact ⟨fun htrips _ h => (hdeclared htrips.1 htrips.2).2 (fun hc => h ⟨href, hc⟩) hclass, fun _ h => absurd hsample h,
          fun htrips _ h => (hdeclared htrips.1 htrips.2).1 h.2 |>.imp id Or.inr, fun _ hr => hr2 hr, fun _ hr => hr1 hr⟩

/-! ## The roles missed (R17, R18) -/

/-- R17: the miss count of a role after an expiry. -/
def RoleStatus.misses (r : RoleStatus) : Nat := if r.taken then r.miss else min 255 (r.miss + 1)

/-- R17, R18: a role after an expiry. -/
theorem RoleStatus.missed_spec (r : RoleStatus) (limit : Nat) : (r.missed limit).quality = (if r.taken then r.quality else .held) ∧
    (r.missed limit).miss = r.misses ∧ ((r.missed limit).lossStands = true ↔ limit ≤ r.misses) := by
  unfold RoleStatus.missed RoleStatus.misses
  cases r.taken with
  | true => exact ⟨rfl, rfl, decide_eq_true_iff⟩
  | false => exact ⟨rfl, rfl, decide_eq_true_iff⟩

theorem Intake.largestMiss_missed (i : Intake) (g : Group1) : (i.missRoles g).largestMiss =
    max (max i.arm.a.status.misses i.arm.b.status.misses) i.speed.status.misses := by
  unfold Intake.largestMiss Intake.missRoles
  dsimp only
  rw [(RoleStatus.missed_spec _ _).2.1, (RoleStatus.missed_spec _ _).2.1, (RoleStatus.missed_spec _ _).2.1]

theorem Intake.sampleLossStands_missed (i : Intake) (g : Group1) : (i.missRoles g).sampleLossStands = true ↔
    g.missLimit ≤ max (max i.arm.a.status.misses i.arm.b.status.misses) i.speed.status.misses := by
  unfold Intake.sampleLossStands Intake.missRoles
  rw [Bool.or_eq_true, Bool.or_eq_true, (RoleStatus.missed_spec _ _).2.2, (RoleStatus.missed_spec _ _).2.2,
    (RoleStatus.missed_spec _ _).2.2, le_max_iff, le_max_iff]

theorem State.classOf_referenceLoss (hb : s.sched.active = some b) : s.classOf .referenceLoss = b.dc.g3.classes[6] := by
  unfold State.classOf
  rw [hb] <;> rfl

/-- R17: an expiry of a running deadline timer with a bank active, by its steps. -/
theorem State.deadlineExpires_eq (hrun : s.intake.deadline.isRunning = true) (hb : s.sched.active = some b) :
    let y := (State.raiseLosses { s with intake := s.intake.missRoles b.dc.g1 }).oweReference.oweRegulation
    s.deadlineExpires = { y with intake := { y.intake with deadline := .expired } } := by
  unfold State.deadlineExpires
  rw [if_pos hrun, hb]

/-- Settles O22: the roles missed, the losses raised, and the events owed, each by what it leaves. -/
theorem deadlineExpires : Obligations.DeadlineExpires := by
  intro s b hrun hb i misses missed limit largest sampleLoss refLoss trips sampleRecord refRecord refTrips
  have hintake := State.deadlineExpires_intake hb hrun
  have hexp := State.deadlineExpires_eq hrun hb
  dsimp only at hexp
  generalize hw : ({ s with intake := s.intake.missRoles b.dc.g1 } : State) = w at hexp
  generalize hx : w.raiseLosses = x at hexp
  generalize hy : x.oweReference.oweRegulation = y at hexp
  generalize ht : s.deadlineExpires = t at hexp hintake
  have hwseq : w.seq = s.seq := by rw [← hw]
  have hwtru : w.tru = s.tru := by rw [← hw]
  have hwbank : w.sched.active = some b := by rw [← hw]; exact hb
  have hxbank : x.sched.active = some b := by rw [← hx, State.raiseLosses_active]; exact hwbank
  have hxintake : x.intake = s.intake.missRoles b.dc.g1 := by rw [← hx, State.raiseLosses_intake, ← hw]
  have hxstrap : x.rp.strap = s.rp.strap := by rw [← hx, State.raiseLosses_strap, ← hw]
  have hkept : EventKept x t := by
    rw [hexp, ← hy]
    exact (EventKept.oweEvents hxbank).trans (.of_eq rfl rfl rfl rfl)
  obtain ⟨hsample, href, hboth, hlinkSample, hlinkRef⟩ := w.raiseLosses_spec
  rw [hx, hwseq, State.classOf_referenceLoss hwbank] at hsample href hboth
  rw [hx] at hlinkSample hlinkRef
  have hstands : w.intake.sampleLossStands = true ↔ sampleLoss := by
    rw [← hw]
    exact Intake.sampleLossStands_missed i b.dc.g1
  have hrefStands : w.intake.ref.status.lossStands = true ↔ refLoss := by
    rw [← hw]
    exact (RoleStatus.missed_spec s.intake.ref.status b.dc.g1.refLossLimit).2.2
  have hlargest : w.intake.largestMiss = largest := by
    rw [← hw]
    exact Intake.largestMiss_missed i b.dc.g1
  have hrefMiss : w.intake.ref.status.miss = misses i.ref.status := by
    rw [← hw]
    exact (RoleStatus.missed_spec s.intake.ref.status b.dc.g1.refLossLimit).2.1
  rw [hstands, hrefStands, hlargest] at hsample
  rw [hstands, hrefStands, hlargest, hrefMiss] at hboth
  rw [hstands, hrefStands, hrefMiss] at href
  rw [hstands] at hlinkSample
  rw [hrefStands] at hlinkRef
  have hthen : ∀ r : CauseRecord, x.seq.drive = .tripped ∧ x.tru.first = some r → t.seq.drive = .tripped ∧ t.tru.first = some r :=
    fun r ⟨hd, hf⟩ => (hkept.tripped hd).imp id fun h => h.trans hf
  refine ⟨t, congrArg Host.Outcome.next ht, ?_, ?_, ?_, fun m => ?_, ?_, ?_, ?_, ?_, ?_, ?_, fun htrips hs hr => hthen _ (hsample htrips hs hr),
    fun htrips hs hr => hthen _ (href htrips hs hr), fun htrips hs hr => ?_, fun hd hs hstanding => ?_, fun hr hstanding hclass => ?_,
    fun hown hmade => ?_⟩
  · rw [hintake]
  · rw [hintake]
  · rw [hintake]
  · rw [hintake]
    cases m with
    | a => exact ⟨rfl, RoleStatus.missed_spec ..⟩
    | b => exact ⟨rfl, RoleStatus.missed_spec ..⟩
  · rw [hintake]
    rfl
  · rw [hintake]
    exact RoleStatus.missed_spec ..
  · rw [hintake]
    rfl
  · rw [hintake]
    exact RoleStatus.missed_spec ..
  · rw [hintake]
    rfl
  · rw [hkept.active, hxbank, hb]
  · obtain ⟨hd, hf⟩ := hboth htrips hs hr
    obtain ⟨hd', hf'⟩ := hkept.tripped hd
    rw [← hf'] at hf
    exact ⟨hd', hf⟩
  · refine hkept.attention _ (hlinkSample hs ⟨Or.inr ⟨rfl, ?_⟩, ?_⟩)
    · rw [hwseq]
      exact hd
    · rw [hwtru]
      exact hstanding
  · refine hkept.attention _ (hlinkRef hr ⟨?_, ?_⟩)
    · rw [State.classOf_referenceLoss hwbank, hwseq]
      exact hclass
    · rw [hwtru]
      exact hstanding
  · have hforwarding : x.forwardingOnly = false := by
      rw [← hown]
      unfold State.forwardingOnly
      rw [hxstrap]
    have hecho := EchoMade.oweEvents hforwarding hxbank (by rw [hxintake]; exact hmade)
    rw [hy] at hecho
    have hmadeAll : y.intake.regMade = ⟨true, true⟩ :=
      (congrArg (fun q : State => q.intake.regMade) hexp).symm.trans (by rw [hintake])
    obtain ⟨f, hf, hframe⟩ := hecho.echo hmadeAll
    refine ⟨f, ?_, ?_⟩
    · rw [hexp]
      exact hf
    · rw [hframe, hxstrap, hexp]
      unfold State.cycleTag
      rw [hxintake]
      rfl

end Sys2Proof.Machine
end
